-- ==== Sys2Proof/Word.lean ====
section
/-! DEFINITION. The word types of the block: bytes, 32-bit words and bit sequences (00_scope.md R9, R10). -/

namespace Sys2Proof

/-- One byte: a symbol, a payload byte or a byte of a codebook section (R9). -/
abbrev Byte := BitVec 8

/-- One 32-bit register or written word (R15, R70). -/
abbrev Word := BitVec 32

/-- A code or a key: a finite bit sequence, its first element the bit on the edge leaving the root (R10). -/
abbrev Bits := List Bool

end Sys2Proof
end

