-- ==== Sys2Proof/Config.lean ====
section
/-! DEFINITION. What one instance of the block fixes (00_scope.md R7) and the values the spec leaves open (10_state.md R41).
Every constant here is opaque: a statement holds whatever its value is. -/

namespace Sys2Proof.Config

/-- Q_DEPTH less one: R7 asks only that Q_DEPTH is an integer of at least 1 (log 4). -/
opaque qDepthLessOne : Nat

/-- Q_DEPTH, the capacity of the entry queue (R7). -/
def qDepth : Nat := qDepthLessOne + 1

/-- OUT_DEPTH less one: R7 asks only that OUT_DEPTH is an integer of at least 1 (log 4). -/
opaque outDepthLessOne : Nat

/-- OUT_DEPTH, the capacity of the output FIFO (R7). -/
def outDepth : Nat := outDepthLessOne + 1

/-- BASE divided by 256: R7 asks only that BASE is a multiple of 256 (log 4). -/
opaque basePage : Nat

/-- BASE, the byte address of the register window (R7, R52). -/
def base : Nat := 256 * basePage

/-- The n-th unspecified value: what the n-th read of a datapath register while BUSY = 1 returns (R41, 93_implementation_defined.md
I8; log 3). -/
opaque freeDraw : Nat → Word

end Sys2Proof.Config
end

