-- ==== Sys2Proof/Syntax.lean ====
section
/-! DEFINITION. What the block executes and what the host does: queue entries (30_encoding.md R70, R71), the instructions of
opcode_table.json, and host accesses to the register window (20_memory.md R52, R57). -/

namespace Sys2Proof

/-- The PORT of an entry, fixed by the register the host wrote (R71); the numbers 5, 6 and 7 are never produced (log 6). -/
inductive Port where
  | cmd | data | arg0 | arg1 | arg2
deriving DecidableEq, Repr

/-- One element of the entry queue, the block's unit of instruction (R70). -/
structure Entry where
  port  : Port
  value : Word
deriving DecidableEq, Repr

/-- The instructions: one constructor for each row of opcode_table.json. Operand widths are in the types (R73, R74, R75). -/
inductive Instr where
  /-- NOP (R91). -/
  | nop
  /-- HIST.CLEAR (R105). -/
  | histClear
  /-- HIST.BEGIN (R106). -/
  | histBegin
  /-- HIST.END (R108). -/
  | histEnd
  /-- FREQ.SET s (R109). -/
  | freqSet (sym : Byte)
  /-- FREQ.GET s (R110). -/
  | freqGet (sym : Byte)
  /-- BUILD (R112). -/
  | build
  /-- NODE.GET i (R119). -/
  | nodeGet (idx : BitVec 9)
  /-- CB.CLEAR (R122). -/
  | cbClear
  /-- CB.GET s (R123). -/
  | cbGet (sym : Byte)
  /-- CB.EMIT (R124). -/
  | cbEmit
  /-- CB.LOAD (R125). -/
  | cbLoad
  /-- ENC.BEGIN (R129). -/
  | encBegin
  /-- ENC.FLUSH (R131). -/
  | encFlush
  /-- DEC.BEGIN (R136). -/
  | decBegin
  /-- DATA b (R74, R89). -/
  | data (byte : Byte)
  /-- ARG0 v (R92). -/
  | arg0 (value : Word)
  /-- ARG1 v (R92). -/
  | arg1 (value : Word)
  /-- ARG2 v (R92). -/
  | arg2 (value : Word)
  /-- CTRL.SOFT_RESET (R94): a CTRL write with bit 0 = 1. -/
  | ctrlSoftReset
  /-- CTRL.ABORT (R95): a CTRL write with bit 0 = 0 and bit 1 = 1. `clear` is bit 2, the CLEAR_ERR that R93 applies after the
  ABORT of the same write (log 9). -/
  | ctrlAbort (clear : Bool)
  /-- CTRL.CLEAR_ERR (R96): a CTRL write with bits 0 and 1 = 0 and bit 2 = 1. -/
  | ctrlClearErr
deriving DecidableEq, Repr

/-- What stands for an instruction: a queue entry, or a word written to CTRL, which is not an entry (R76). -/
inductive Encoded where
  | entry (e : Entry)
  | ctrl (w : Word)
deriving DecidableEq, Repr

/-- What a host access does (R57, R59). -/
inductive AccessKind where
  | read
  | write (value : Word)
deriving DecidableEq, Repr

/-- One host access. `offset` is its byte address less BASE, so the window is the offsets 0 to 255 (R52); `width` is in bits (R57). -/
structure Access where
  kind   : AccessKind
  offset : Int
  width  : Nat
deriving DecidableEq, Repr

/-- The access a host makes at a byte address of the platform (R52). -/
def Access.atAddress (k : AccessKind) (addr width : Nat) : Access :=
  { kind := k, offset := (addr : Int) - (Config.base : Int), width := width }

/-- Who moves in one step: the block by an internal step, the host by its next access (R14, R88), or the platform's reset signal
(R167). -/
inductive Turn where
  | block | host | hardReset
deriving DecidableEq, Repr

/-- What one host read returned. -/
structure HostRead where
  offset : Nat
  value  : Word
deriving DecidableEq, Repr

end Sys2Proof
end

