-- ==== Sys2Proof/WellFormed.lean ====
section
/-! DEFINITION. The checks on terms of Syntax. An `Instr` carries its operand widths in its types, so its check concerns only its
kind; a host access is defined only inside the window, at 32 bits, at a multiple of 4 (20_memory.md R52, R57). -/

namespace Sys2Proof

/-- The access is 32 bits wide (R57). -/
def Access.wordWide (a : Access) : Bool := a.width == 32

/-- The access's offset is a multiple of 4 (R57). -/
def Access.aligned (a : Access) : Bool := a.offset % 4 == 0

/-- The access is to one of the 256 bytes of the window (R52). -/
def Access.inWindow (a : Access) : Bool := decide (0 ≤ a.offset) && decide (a.offset < 256)

/-- The access is one the block defines (R52, R57). -/
def Access.wellFormed (a : Access) : Bool := a.inWindow && a.wordWide && a.aligned

/-- The instruction is an entry of the queue rather than a CTRL write (R76). -/
def Instr.queued : Instr → Bool
  | .ctrlSoftReset => false
  | .ctrlAbort _ => false
  | .ctrlClearErr => false
  | .nop => true
  | .histClear => true
  | .histBegin => true
  | .histEnd => true
  | .freqSet _ => true
  | .freqGet _ => true
  | .build => true
  | .nodeGet _ => true
  | .cbClear => true
  | .cbGet _ => true
  | .cbEmit => true
  | .cbLoad => true
  | .encBegin => true
  | .encFlush => true
  | .decBegin => true
  | .data _ => true
  | .arg0 _ => true
  | .arg1 _ => true
  | .arg2 _ => true

/-- The entry's VALUE has no 1 in a bit that must be zero whatever the command is: DATA [31:8] (R74), and [23:9] of a CMD word, which
no operand form uses (R73). An entry that fails this check is executed and raises an error (R79). -/
def Entry.reservedClear (e : Entry) : Bool :=
  match e.port with
  | .cmd => e.value.extractLsb' 9 15 == 0
  | .data => e.value.extractLsb' 8 24 == 0
  | .arg0 => true
  | .arg1 => true
  | .arg2 => true

end Sys2Proof
end

