-- ==== Sys2Proof/Decode.lean ====
section
/-! DEFINITION. The decoder and, after it, the encoder (30_encoding.md R70-R80). The decoder is total: it gives an instruction or a
reason by name. The MODE check of R79 is not a matter of encoding and stands in the meanings. -/

namespace Sys2Proof

/-- Why a word is no instruction. -/
inductive Reject where
  /-- A CMD entry's OPCODE is not in the table of R77: executing it raises USAGE.ILLEGAL_OPCODE (R80a). -/
  | illegalOpcode
  /-- A must-be-zero bit is 1: executing it raises USAGE.RESERVED_FIELD (R80b). -/
  | reservedField
  /-- The PORT bits are 5, 6 or 7, which cannot occur (R71, R80e). -/
  | unreachablePort
  /-- A CTRL word with none of its three bits set, which does nothing (R93). -/
  | noAction
deriving DecidableEq, Repr

/-! ## Fields -/

/-- OPCODE, bits [31:24] of a CMD VALUE (R72). -/
def opcodeOf (v : Word) : Byte := v.extractLsb' 24 8

/-- OPERAND, bits [23:0] of a CMD VALUE (R72). -/
def operandOf (v : Word) : BitVec 24 := v.extractLsb' 0 24

/-- The number of a PORT (R70). -/
def Port.number : Port → BitVec 3
  | .cmd => 0
  | .data => 1
  | .arg0 => 2
  | .arg1 => 3
  | .arg2 => 4

/-- The PORT of a number; 5, 6 and 7 have none (R70, R71). -/
def Port.ofNumber (n : BitVec 3) : Option Port :=
  if n = 0 then some .cmd
  else if n = 1 then some .data
  else if n = 2 then some .arg0
  else if n = 3 then some .arg1
  else if n = 4 then some .arg2
  else none

/-- An entry as one 35-bit number, PORT x 2^32 + VALUE (R70). -/
def Entry.toBits (e : Entry) : BitVec 35 := e.port.number ++ e.value

/-- The entry that 35 bits stand for, if their PORT is one the hardware produces (R70, R71). -/
def Entry.ofBits (b : BitVec 35) : Option Entry :=
  match Port.ofNumber (b.extractLsb' 32 3) with
  | none => none
  | some p => some { port := p, value := b.extractLsb' 0 32 }

/-! ## Operand forms (R73) -/

/-- Form NONE: OPERAND[23:0] must be zero. -/
def formNone (v : Word) (i : Instr) : Except Reject Instr :=
  if operandOf v = 0 then .ok i else .error .reservedField

/-- Form SYM8: the symbol is OPERAND[7:0]; OPERAND[23:8] must be zero. -/
def formSym8 (v : Word) (i : Byte → Instr) : Except Reject Instr :=
  if (operandOf v).extractLsb' 8 16 = 0 then .ok (i ((operandOf v).extractLsb' 0 8)) else .error .reservedField

/-- Form IDX9: the node index is OPERAND[8:0]; OPERAND[23:9] must be zero. -/
def formIdx9 (v : Word) (i : BitVec 9 → Instr) : Except Reject Instr :=
  if (operandOf v).extractLsb' 9 15 = 0 then .ok (i ((operandOf v).extractLsb' 0 9)) else .error .reservedField

/-! ## The decoder -/

/-- A CMD VALUE: the opcode map of R77, with the first two checks of R79 in their order. -/
def decodeCmd (v : Word) : Except Reject Instr :=
  match opcodeOf v with
  | 0x00#8 => formNone v .nop
  | 0x10#8 => formNone v .histClear
  | 0x11#8 => formNone v .histBegin
  | 0x12#8 => formNone v .histEnd
  | 0x13#8 => formSym8 v .freqSet
  | 0x14#8 => formSym8 v .freqGet
  | 0x20#8 => formNone v .build
  | 0x21#8 => formIdx9 v .nodeGet
  | 0x30#8 => formNone v .cbClear
  | 0x31#8 => formSym8 v .cbGet
  | 0x32#8 => formNone v .cbEmit
  | 0x33#8 => formNone v .cbLoad
  | 0x40#8 => formNone v .encBegin
  | 0x41#8 => formNone v .encFlush
  | 0x50#8 => formNone v .decBegin
  | _ => .error .illegalOpcode

/-- A DATA VALUE: one byte in [7:0]; [31:8] must be zero (R74, R79). -/
def decodeData (v : Word) : Except Reject Instr :=
  if v.extractLsb' 8 24 = 0 then .ok (.data (v.extractLsb' 0 8)) else .error .reservedField

/-- A queue entry, by its PORT (R89). An ARG entry has no checks (R79). -/
def decodeEntry (e : Entry) : Except Reject Instr :=
  match e.port with
  | .cmd => decodeCmd e.value
  | .data => decodeData e.value
  | .arg0 => .ok (.arg0 e.value)
  | .arg1 => .ok (.arg1 e.value)
  | .arg2 => .ok (.arg2 e.value)

/-- A queue entry given as its 35 bits (R70). -/
def decodeBits (b : BitVec 35) : Except Reject Instr :=
  match Entry.ofBits b with
  | none => .error .unreachablePort
  | some e => decodeEntry e

/-- A word written to CTRL: bit 0 is SOFT_RESET and hides the others, bit 1 is ABORT, bit 2 is CLEAR_ERR, [31:3] are ignored (R76,
R93). -/
def decodeCtrl (w : Word) : Except Reject Instr :=
  if w.getLsbD 0 then .ok .ctrlSoftReset
  else if w.getLsbD 1 then .ok (.ctrlAbort (w.getLsbD 2))
  else if w.getLsbD 2 then .ok .ctrlClearErr
  else .error .noAction

/-- What stands for an instruction, decoded. -/
def decode : Encoded → Except Reject Instr
  | .entry e => decodeEntry e
  | .ctrl w => decodeCtrl w

/-! ## The encoder -/

/-- A CMD VALUE of form NONE (R72, R77). -/
def cmdWord (op : Byte) : Word := op ++ (0 : BitVec 24)

/-- A CMD VALUE of form SYM8 (R73). -/
def cmdSymWord (op : Byte) (s : Byte) : Word := op ++ ((0 : BitVec 16) ++ s)

/-- A CMD VALUE of form IDX9 (R73). -/
def cmdIdxWord (op : Byte) (i : BitVec 9) : Word := op ++ ((0 : BitVec 15) ++ i)

/-- The word the host writes for an instruction: the VALUE of its entry (R70, R77), or the CTRL word with only its own bits set
(R76). -/
def Instr.value : Instr → Word
  | .nop => cmdWord 0x00
  | .histClear => cmdWord 0x10
  | .histBegin => cmdWord 0x11
  | .histEnd => cmdWord 0x12
  | .freqSet s => cmdSymWord 0x13 s
  | .freqGet s => cmdSymWord 0x14 s
  | .build => cmdWord 0x20
  | .nodeGet i => cmdIdxWord 0x21 i
  | .cbClear => cmdWord 0x30
  | .cbGet s => cmdSymWord 0x31 s
  | .cbEmit => cmdWord 0x32
  | .cbLoad => cmdWord 0x33
  | .encBegin => cmdWord 0x40
  | .encFlush => cmdWord 0x41
  | .decBegin => cmdWord 0x50
  | .data b => (0 : BitVec 24) ++ b
  | .arg0 v => v
  | .arg1 v => v
  | .arg2 v => v
  | .ctrlSoftReset => 1
  | .ctrlAbort clear => if clear then 6 else 2
  | .ctrlClearErr => 4

/-- The register the host writes the word to: a queue port, or none for CTRL (R71, R76). -/
def Instr.port : Instr → Option Port
  | .data _ => some .data
  | .arg0 _ => some .arg0
  | .arg1 _ => some .arg1
  | .arg2 _ => some .arg2
  | .ctrlSoftReset => none
  | .ctrlAbort _ => none
  | .ctrlClearErr => none
  | .nop => some .cmd
  | .histClear => some .cmd
  | .histBegin => some .cmd
  | .histEnd => some .cmd
  | .freqSet _ => some .cmd
  | .freqGet _ => some .cmd
  | .build => some .cmd
  | .nodeGet _ => some .cmd
  | .cbClear => some .cmd
  | .cbGet _ => some .cmd
  | .cbEmit => some .cmd
  | .cbLoad => some .cmd
  | .encBegin => some .cmd
  | .encFlush => some .cmd
  | .decBegin => some .cmd

/-- What the host writes for an instruction, and where. -/
def encode (i : Instr) : Encoded :=
  match i.port with
  | some p => .entry { port := p, value := i.value }
  | none => .ctrl i.value

/-! ## The opcode table's numbering (opcode_table.json) -/

/-- What the table's word stands for: a word of more than 32 bits is an entry of 35 bits, its bits above bit 34 zero (R70); a word of
at most 32 bits is a CTRL write (R76), and one with no CTRL bit set is read as an entry whose PORT bits are zero (log 10). -/
def tableWord (nbits w : Nat) : Option Encoded :=
  if nbits ≤ 32 ∧ w % 8 ≠ 0 then some (.ctrl (BitVec.ofNat 32 w))
  else if w < 2 ^ 35 then (Entry.ofBits (BitVec.ofNat 35 w)).map .entry
  else none

/-- The instruction the decoder reads from a word of opcode_table.json's numbering. -/
def decodeTableWord (nbits w : Nat) : Option Instr :=
  match tableWord nbits w with
  | none => none
  | some x =>
    match decode x with
    | .ok i => some i
    | .error _ => none

end Sys2Proof
end

