-- ==== Sys2Proof/Machine/State.lean ====
section
/-! DEFINITION. The state of the block (10_state.md R37-R47), the reset state (70_reset_and_hazards.md R166), and the reasons a step
can stop. -/

namespace Sys2Proof.Machine

/-- MODE: how a DATA entry is read and which commands are legal (R37). -/
inductive Mode where
  | idle | tabulate | encode | cbLoad | decode | error
deriving DecidableEq, Repr

/-- PHASE of the codebook parser (R47). -/
inductive Phase where
  | count | sym | len | digits
deriving DecidableEq, Repr

/-- The causes of an error that the block raises (60_exceptions.md R153). -/
inductive Cause where
  | illegalOpcode | reservedField | illegalInMode | dataInIdle | freqOverflow | lenOverflow
  | queueOverflow | cancelled
  | missingSymbol
  | cbCountRange | cbDupSymbol | cbLenRange | cbBadDigit | cbDupCode | cbEmpty
  | badPadding | payloadExhausted | unmatchable
deriving DecidableEq, Repr

/-- One node of the arena (R43). -/
structure Node where
  leaf  : Bool
  sym   : Byte
  freq  : BitVec 72
  left  : BitVec 9
  right : BitVec 9
deriving DecidableEq, Repr

/-- A node at reset, and what an index that holds no node reads as (R43, R166). -/
def Node.zero : Node := { leaf := false, sym := 0, freq := 0, left := 0, right := 0 }

/-- One entry of the codebook LUT: VALID, LEN and CODE, the bit sequence c[0..LEN-1] (R44). -/
structure LutEntry where
  valid : Bool
  len   : BitVec 9
  code  : Bits
deriving DecidableEq, Repr

/-- A LUT entry at reset: VALID 0, LEN 0, CODE [] (R44, R166). -/
def LutEntry.absent : LutEntry := { valid := false, len := 0, code := [] }

/-- An internal memory: its cells by index, indices strictly rising, no cell equal to what an unlisted index reads as (log 8). -/
abbrev Memory (α : Type) := List (Nat × α)

/-- Everything the spec gives the block, and after it the model's own four fields: the host's accesses to come, who moves next, what
the host has read, and the count of free draws (log 1, log 2, log 3). -/
structure State where
  mode        : Mode
  q           : List Entry
  pend        : List Byte
  out         : List Byte
  arg0        : Word
  arg1        : Word
  arg2        : Word
  seq         : Word
  err         : Word
  errInfo     : Word
  errSeq      : Word
  doneIE      : Bool
  errIE       : Bool
  doneIP      : Bool
  errIP       : Bool
  hist        : Memory (BitVec 64)
  node        : Memory Node
  nodeCount   : BitVec 10
  treeValid   : Bool
  treeIndex   : BitVec 9
  lut         : Memory LutEntry
  cbCount     : BitVec 9
  cbMaxlen    : BitVec 9
  buf         : Byte
  cnt         : BitVec 3
  origCount   : Word
  compCount   : Word
  padding     : BitVec 3
  decO        : Word
  decC        : Word
  decP        : BitVec 3
  decEmitted  : Word
  decConsumed : Word
  key         : Bits
  phase       : Phase
  acc         : Word
  idx         : BitVec 2
  cntTotal    : Word
  doneCount   : BitVec 9
  csym        : Byte
  clen        : BitVec 9
  ccode       : Bits
  result0     : Word
  result1     : Word
  result2     : Word
  codew       : BitVec 256
  accesses    : List Access
  turns       : List Turn
  reads       : List HostRead
  draws       : Nat
deriving DecidableEq, Repr

/-- The machine right after reset: every item of R166, and the model's own fields empty (log 1, log 2, log 3). -/
def State.reset : State where
  mode        := .idle
  q           := []
  pend        := []
  out         := []
  arg0        := 0
  arg1        := 0
  arg2        := 0
  seq         := 0
  err         := 0
  errInfo     := 0
  errSeq      := 0
  doneIE      := false
  errIE       := false
  doneIP      := false
  errIP       := false
  hist        := []
  node        := []
  nodeCount   := 0
  treeValid   := false
  treeIndex   := 0
  lut         := []
  cbCount     := 0
  cbMaxlen    := 0
  buf         := 0
  cnt         := 0
  origCount   := 0
  compCount   := 0
  padding     := 0
  decO        := 0
  decC        := 0
  decP        := 0
  decEmitted  := 0
  decConsumed := 0
  key         := []
  phase       := .count
  acc         := 0
  idx         := 0
  cntTotal    := 0
  doneCount   := 0
  csym        := 0
  clen        := 0
  ccode       := []
  result0     := 0
  result1     := 0
  result2     := 0
  codew       := 0
  accesses    := []
  turns       := []
  reads       := []
  draws       := 0

/-- Why the machine would stop with a fault: never. Every error the spec describes is taken, by error entry (60_exceptions.md R154),
and the machine goes on. No meaning and no step raises a fault. -/
inductive Fault where
deriving DecidableEq, Repr

/-- Why a step has no next state. -/
inductive Refusal where
  /-- An instruction that has no meaning yet, by its mnemonic. Raised by `exec` only. Safe: nothing can be proved of it. -/
  | notModelled (mnemonic : String)
  /-- A host access that is not 32 bits wide at a multiple of 4: a bus error, which a model refuses (20_memory.md R57, I11). Raised
  by the host's move in `step`. Safe: the hardware goes on with its state unchanged, the model stops (log 5). -/
  | busError
  /-- A host access outside the 256-byte window, which belongs to the platform (20_memory.md R52, I12). Raised by the host's move
  in `step`. Safe: the model stops (log 5). -/
  | outsideWindow
deriving DecidableEq, Repr

end Sys2Proof.Machine
end

