-- ==== Sys2Proof/Machine/Ops.lean ====
section
/-! DEFINITION. The named operations over memories, queues and registers that the meanings share, error entry (60_exceptions.md R154)
and the return from it (40_queue_control.md R96), and reset (70_reset_and_hazards.md R168). -/

namespace Sys2Proof.Machine

/-! ## Internal memories (20_memory.md R51) -/

/-- The cell at index `a`; an index that is not listed reads as `d`. -/
def Memory.read {α : Type} (d : α) : Memory α → Nat → α
  | [], _ => d
  | (k, v) :: m, a => if k = a then v else Memory.read d m a

/-- The memory with `v` at index `a`. Writing what an unlisted index reads as removes the cell, so the form stays canonical. -/
def Memory.write {α : Type} [DecidableEq α] (d : α) : Memory α → Nat → α → Memory α
  | [], a, v => if v = d then [] else [(a, v)]
  | (k, w) :: m, a, v =>
    if k < a then (k, w) :: Memory.write d m a v
    else if k = a then (if v = d then m else (a, v) :: m)
    else (if v = d then (k, w) :: m else (a, v) :: (k, w) :: m)

/-- The canonical form: indices strictly rising and below `size`, no cell equal to what an unlisted index reads as (log 8). -/
def Memory.wf {α : Type} [DecidableEq α] (d : α) (size : Nat) (m : Memory α) : Bool :=
  decide ((m.map Prod.fst).Pairwise (· < ·)) && m.all fun c => decide (c.2 ≠ d) && decide (c.1 < size)

/-- HIST[s] (10_state.md R42). -/
def State.histAt (s : State) (b : Byte) : BitVec 64 := Memory.read 0 s.hist b.toNat

/-- HIST[b] <- v. -/
def State.setHist (s : State) (b : Byte) (v : BitVec 64) : State := { s with hist := Memory.write 0 s.hist b.toNat v }

/-- NODE[i] (10_state.md R43). -/
def State.nodeAt (s : State) (i : Nat) : Node := Memory.read Node.zero s.node i

/-- LUT[s] (10_state.md R44). -/
def State.lutAt (s : State) (b : Byte) : LutEntry := Memory.read LutEntry.absent s.lut b.toNat

/-- LUT[b] <- {VALID 1, LEN |c|, CODE c} for a code of at most 256 bits. -/
def LutEntry.ofCode (c : Bits) : LutEntry := { valid := true, len := BitVec.ofNat 9 c.length, code := c }

/-! ## Queues (10_state.md R39) -/

/-- Push(b): append a byte to PEND (00_scope.md R12). -/
def State.push (s : State) (b : Byte) : State := { s with pend := s.pend ++ [b] }

/-- Push of several bytes in order. -/
def State.pushAll (s : State) (bs : List Byte) : State := { s with pend := s.pend ++ bs }

/-- Taking the head entry from Q and counting it (40_queue_control.md R84, R87). -/
def State.dequeue (s : State) : State := { s with q := s.q.tail, seq := s.seq + 1 }

/-- Moving the head of PEND to the end of OUT (40_queue_control.md R85). -/
def State.drainByte (s : State) : State := { s with out := s.out ++ s.pend.take 1, pend := s.pend.tail }

/-- Appending an entry to Q (20_memory.md R61). -/
def State.enqueue (s : State) (e : Entry) : State := { s with q := s.q ++ [e] }

/-! ## Error causes (60_exceptions.md R152, R153) -/

/-- KIND of a cause (R152, R153). -/
def Cause.kind : Cause → BitVec 4
  | .illegalOpcode => 5
  | .reservedField => 5
  | .illegalInMode => 5
  | .dataInIdle => 5
  | .freqOverflow => 5
  | .lenOverflow => 5
  | .queueOverflow => 3
  | .cancelled => 3
  | .missingSymbol => 4
  | .cbCountRange => 1
  | .cbDupSymbol => 1
  | .cbLenRange => 1
  | .cbBadDigit => 1
  | .cbDupCode => 1
  | .cbEmpty => 1
  | .badPadding => 1
  | .payloadExhausted => 1
  | .unmatchable => 1

/-- CAUSE code of a cause (R153). -/
def Cause.code : Cause → BitVec 8
  | .illegalOpcode => 0x01
  | .reservedField => 0x02
  | .illegalInMode => 0x03
  | .dataInIdle => 0x04
  | .freqOverflow => 0x05
  | .lenOverflow => 0x06
  | .queueOverflow => 0x10
  | .cancelled => 0x11
  | .missingSymbol => 0x20
  | .cbCountRange => 0x30
  | .cbDupSymbol => 0x31
  | .cbLenRange => 0x32
  | .cbBadDigit => 0x33
  | .cbDupCode => 0x34
  | .cbEmpty => 0x35
  | .badPadding => 0x40
  | .payloadExhausted => 0x41
  | .unmatchable => 0x42

/-- What ERR holds for a cause: KIND << 8 | CAUSE (R24, R153). -/
def Cause.errWord (c : Cause) : Word := (0 : BitVec 20) ++ (c.kind ++ c.code)

/-! ## Reset, error entry and the return from it -/

/-- The reset of the block (R166, R168): every item of the block at its reset value. The model's own fields are the world outside
and keep their values. -/
def State.toReset (s : State) : State :=
  { State.reset with accesses := s.accesses, turns := s.turns, reads := s.reads, draws := s.draws }

/-- Error entry (R154): ERR, ERR_INFO and ERR_SEQ record the error, SEQ, IRQ_EN and DONE_IP are kept, ERR_IP is set, MODE is ERROR, and
every other item takes its reset value. -/
def State.errorEntry (s : State) (c : Cause) (info eseq : Word) : State :=
  { s.toReset with
    mode := .error, err := c.errWord, errInfo := info, errSeq := eseq,
    seq := s.seq, doneIE := s.doneIE, errIE := s.errIE, doneIP := s.doneIP, errIP := true }

/-- A raise inside an entry's execution. The entry has been counted already, so its sequence number is SEQ less one (R25, R84, R154;
log 11). -/
def State.raise (s : State) (c : Cause) (info : Word) : State := s.errorEntry c info (s.seq - 1)

/-- An error raised by a host access: ERR_SEQ is SEQ at the time of the access (R25, R154). -/
def State.raiseHost (s : State) (c : Cause) (info : Word) : State := s.errorEntry c info s.seq

/-- Cancellation: raise IO.CANCELLED(0) unless MODE is ERROR (40_queue_control.md R95). -/
def State.abort (s : State) : State := if s.mode = .error then s else s.raiseHost .cancelled 0

/-- The return from error: ERROR to IDLE with the error registers cleared; nothing outside ERROR (40_queue_control.md R96). -/
def State.clearErr (s : State) : State :=
  if s.mode = .error then { s with mode := .idle, err := 0, errInfo := 0, errSeq := 0 } else s

/-! ## Parts that several commands clear -/

/-- Every LUT entry and every node to reset, with CB_COUNT, CB_MAXLEN, NODE_COUNT and TREE_ROOT (44_codebook.md R122, R125). -/
def State.clearCodebook (s : State) : State :=
  { s with lut := [], cbCount := 0, cbMaxlen := 0, node := [], nodeCount := 0, treeValid := false, treeIndex := 0 }

/-- The codebook parser to reset (10_state.md R47, 44_codebook.md R125, R126). -/
def State.clearParser (s : State) : State :=
  { s with phase := .count, acc := 0, idx := 0, cntTotal := 0, doneCount := 0, csym := 0, clen := 0, ccode := [] }

end Sys2Proof.Machine
end

