-- ==== Sys2Proof/Machine/Operands.lean ====
section
/-! DEFINITION. Operands of the commands, the mode check they share (30_encoding.md R78, R79), and the byte forms of numbers and codes
(00_scope.md R11). The operand fields themselves are cut out in Decode. -/

namespace Sys2Proof.Machine

/-- FREQ.SET's operand ARG1:ARG0, ARG0 the low half (10_state.md R38, 30_encoding.md R75). -/
def State.arg64 (s : State) : BitVec 64 := s.arg1 ++ s.arg0

/-- DEC.BEGIN's O, the original length (46_decoder.md R136). -/
def State.operandO (s : State) : Word := s.arg0

/-- DEC.BEGIN's C, the number of payload bytes (46_decoder.md R136). -/
def State.operandC (s : State) : Word := s.arg1

/-- DEC.BEGIN's P, the padding (46_decoder.md R136). -/
def State.operandP (s : State) : Word := s.arg2

/-- The last check of R79: command `i` is legal only in mode `m` (R78); elsewhere USAGE.ILLEGAL_IN_MODE is raised with the command's
VALUE, and the command has no other effect. -/
def inMode (m : Mode) (i : Instr) (s : State) (effect : State → State) : State :=
  if s.mode = m then effect s else s.raise .illegalInMode i.value

/-- u32be(v): the four bytes of v, most significant first (R11). -/
def u32be (v : Word) : List Byte :=
  [v.extractLsb' 24 8, v.extractLsb' 16 8, v.extractLsb' 8 8, v.extractLsb' 0 8]

/-- u16be(v): the two bytes of v, most significant first (R11). -/
def u16be (v : BitVec 16) : List Byte := [v.extractLsb' 8 8, v.extractLsb' 0 8]

/-- The ASCII digit of a bit: 0x30 + bit (R11, 44_codebook.md R120). -/
def asciiDigit (b : Bool) : Byte := if b then 0x31 else 0x30

/-- ascii(c): the digits of a code (R11). -/
def ascii (c : Bits) : List Byte := c.map asciiDigit

/-- The bit that an ASCII digit stands for; any other byte stands for none (44_codebook.md R126). -/
def digitBit (b : Byte) : Option Bool := if b = 0x30 then some false else if b = 0x31 then some true else none

/-- The number a bit sequence writes, its first bit the most significant: the sum of c[i] x 2^(L-1-i) (44_codebook.md R123), at 256
bits. -/
def bitsValue (c : Bits) : BitVec 256 := c.foldl (fun v b => (v <<< 1) ||| (if b then 1 else 0)) 0

end Sys2Proof.Machine
end

