-- ==== Sys2Proof/Machine/BitStream.lean ====
section
/-! DEFINITION. The bit writer and the bit reader (41_bitstream.md R98-R103). -/

namespace Sys2Proof.Machine

/-- BitPut(bit): shift the bit into BUF; the eighth bit pushes the byte (R98). -/
def State.bitPut (s : State) (b : Bool) : State :=
  let buf := (s.buf <<< 1) ||| (if b then 1 else 0)
  if s.cnt.toNat + 1 = 8 then
    { s with pend := s.pend ++ [buf], compCount := s.compCount + 1, buf := 0, cnt := 0 }
  else { s with buf := buf, cnt := s.cnt + 1 }

/-- BitPut of every bit of a code, in order (45_encoder.md R130). -/
def State.bitPuts (s : State) (c : Bits) : State := c.foldl State.bitPut s

/-- The padding BitFlush reports: 8 - CNT, or 0 when CNT = 0 (R100). -/
def State.flushPad (s : State) : BitVec 3 := BitVec.ofNat 3 ((8 - s.cnt.toNat) % 8)

/-- BitFlush's effect: the partial byte is shifted up and pushed, if there is one (R100). -/
def State.bitFlush (s : State) : State :=
  if s.cnt.toNat > 0 then
    { s with pend := s.pend ++ [s.buf <<< (8 - s.cnt.toNat)], compCount := s.compCount + 1, buf := 0, cnt := 0 }
  else { s with buf := 0, cnt := 0 }

/-- BitsOf(b, n): the n most significant bits of b, bit 7 first (R102). -/
def bitsOf (b : Byte) (n : Nat) : Bits := (List.range n).map fun i => b.getLsbD (7 - i)

/-- nvalid(k): how many bits of payload byte k are valid, 8 but for the last byte, which has 8 - P (R103). -/
def nvalid (k c : Word) (p : BitVec 3) : Nat := if k = c - 1 then 8 - p.toNat else 8

end Sys2Proof.Machine
end

