-- ==== Sys2Proof/Machine/Codebook.lean ====
section
/-! DEFINITION. The codebook LUT, its serializer and its loader (44_codebook.md R120-R126), and the key lookup (46_decoder.md R135). -/

namespace Sys2Proof.Machine

/-- Match(KEY): the symbol whose valid entry has LEN = |KEY| and CODE = KEY (46_decoder.md R135). At most one has, by 10_state.md R48
(c); log 12 says what the model does in a state where two have. -/
def matchKey (lut : Memory LutEntry) (key : Bits) : Option Byte :=
  (lut.find? fun c => c.2.valid && (c.2.len.toNat == key.length) && (c.2.code == key)).map fun c => BitVec.ofNat 8 c.1

/-- CB.CLEAR: the LUT and the tree to reset (R122). -/
def execCbClear (s : State) : Host.Outcome State Fault Refusal :=
  .next (inMode .idle .cbClear s State.clearCodebook)

/-- RESULT0 of CB.GET for a valid entry: VALID in bit 31, LEN in [8:0] (R123). -/
def LutEntry.resultWord (e : LutEntry) : Word := 1#1 ++ ((0 : BitVec 22) ++ e.len)

/-- CB.GET s: LEN to RESULT0 and the code's value to CODEW7:...:CODEW0, or zeros for an absent symbol (R123). -/
def execCbGet (b : Byte) (s : State) : Host.Outcome State Fault Refusal :=
  .next (inMode .idle (.cbGet b) s fun s =>
    if (s.lutAt b).valid then
      { s with
        result0 := (s.lutAt b).resultWord, result1 := 0, result2 := 0,
        codew := bitsValue ((s.lutAt b).code.take (s.lutAt b).len.toNat) }
    else { s with result0 := 0, result1 := 0, result2 := 0, codew := 0 })

/-- The bytes of one codebook entry: the symbol, its length big-endian, its digits (R120, R124). -/
def entryBytes (b : Nat) (e : LutEntry) : List Byte :=
  [BitVec.ofNat 8 b] ++ u16be (e.len.setWidth 16) ++ ascii (e.code.take e.len.toNat)

/-- The codebook section of the LUT: the count, then the valid entries in ascending symbol order (R120, R121, R124). -/
def State.codebookBytes (s : State) : List Byte :=
  u32be (s.cbCount.setWidth 32) ++
    (List.range 256).flatMap fun b =>
      if (Memory.read LutEntry.absent s.lut b).valid then entryBytes b (Memory.read LutEntry.absent s.lut b) else []

/-- CB.EMIT: push the codebook section (R124). -/
def execCbEmit (s : State) : Host.Outcome State Fault Refusal :=
  .next (inMode .idle .cbEmit s fun s => s.pushAll s.codebookBytes)

/-- CB.LOAD: the LUT, the tree and the parser to reset, MODE <- CB_LOAD (R125). -/
def execCbLoad (s : State) : Host.Outcome State Fault Refusal :=
  .next (inMode .idle .cbLoad s fun s => { s.clearCodebook.clearParser with mode := .cbLoad })

/-! ## DATA in CB_LOAD (R126) -/

/-- Finish(): MODE <- IDLE and the parser to reset (R126). -/
def State.loadFinish (s : State) : State := { s.clearParser with mode := .idle }

/-- ACC with one more byte, big-endian (R126). -/
def State.accWith (s : State) (b : Byte) : Word := (s.acc <<< 8) ||| b.setWidth 32

/-- A byte in PHASE = COUNT: the fourth ends the count, which must be at most 256; 0 ends the load (R126). -/
def State.loadCount (s : State) (b : Byte) : State :=
  if s.idx.toNat + 1 = 4 then
    if (s.accWith b).toNat > 256 then s.raise .cbCountRange (Instr.value (.data b))
    else if s.accWith b = 0 then s.loadFinish
    else { s with cntTotal := s.accWith b, acc := 0, idx := 0, phase := .sym }
  else { s with acc := s.accWith b, idx := s.idx + 1 }

/-- A byte in PHASE = SYM: the symbol, which must not have an entry (R126). -/
def State.loadSym (s : State) (b : Byte) : State :=
  if (s.lutAt b).valid then s.raise .cbDupSymbol (Instr.value (.data b)) else { s with csym := b, phase := .len }

/-- A byte in PHASE = LEN: the second ends the length ACC[15:0], which must be in 1..256 (R126). -/
def State.loadLen (s : State) (b : Byte) : State :=
  if s.idx.toNat + 1 = 2 then
    if ((s.accWith b).extractLsb' 0 16).toNat = 0 ∨ ((s.accWith b).extractLsb' 0 16).toNat > 256 then
      s.raise .cbLenRange (Instr.value (.data b))
    else { s with acc := 0, idx := 0, clen := (s.accWith b).extractLsb' 0 9, ccode := [], phase := .digits }
  else { s with acc := s.accWith b, idx := s.idx + 1 }

/-- The last digit of an entry: a code already in the LUT is an error; else the entry is committed, and the load ends after the
CNT_TOTAL-th (R126). -/
def State.loadCommit (s : State) (b : Byte) (code : Bits) : State :=
  if (matchKey s.lut code).isSome then s.raise .cbDupCode (Instr.value (.data b))
  else
    let s1 : State :=
      { s with
        lut := Memory.write LutEntry.absent s.lut s.csym.toNat { valid := true, len := s.clen, code := code },
        cbCount := s.cbCount + 1,
        cbMaxlen := if s.cbMaxlen.toNat < s.clen.toNat then s.clen else s.cbMaxlen,
        doneCount := s.doneCount + 1 }
    if s1.doneCount.toNat = s1.cntTotal.toNat then s1.loadFinish else { s1 with phase := .sym, ccode := [] }

/-- A byte in PHASE = DIGITS: the next code bit (R126). -/
def State.loadDigit (s : State) (b : Byte) : State :=
  match digitBit b with
  | none => s.raise .cbBadDigit (Instr.value (.data b))
  | some bit =>
    if (s.ccode ++ [bit]).length = s.clen.toNat then s.loadCommit b (s.ccode ++ [bit])
    else { s with ccode := s.ccode ++ [bit] }

/-- DATA in CB_LOAD: one byte of the codebook section, by PHASE (R126). -/
def State.loadByte (s : State) (b : Byte) : State :=
  match s.phase with
  | .count => s.loadCount b
  | .sym => s.loadSym b
  | .len => s.loadLen b
  | .digits => s.loadDigit b

end Sys2Proof.Machine
end

