-- ==== Sys2Proof/Machine/Decoder.lean ====
section
/-! DEFINITION. The per-file decoder (46_decoder.md R135-R137). -/

namespace Sys2Proof.Machine

/-- DEC.BEGIN's effect: the three checks in their order, then the latched operands; DECODE is entered when C > 0 (R136). -/
def State.decodeBegin (s : State) : State :=
  if s.operandP.toNat > 7 then s.raise .badPadding (Instr.value .decBegin)
  else if s.cbCount = 0 ∧ s.operandO ≠ 0 then s.raise .cbEmpty (Instr.value .decBegin)
  else if s.operandC = 0 ∧ s.operandO ≠ 0 then s.raise .payloadExhausted (Instr.value .decBegin)
  else
    { s with
      decO := s.operandO, decC := s.operandC, decP := s.operandP.extractLsb' 0 3,
      decEmitted := 0, decConsumed := 0, key := [],
      mode := if s.operandC = 0 then s.mode else .decode }

/-- DEC.BEGIN (R136). -/
def execDecBegin (s : State) : Host.Outcome State Fault Refusal := .next (inMode .idle .decBegin s State.decodeBegin)

/-- The bit loop of R137: each bit is appended to KEY; a match emits its symbol and resets KEY; a key of CB_MAXLEN bits with no match is
UNMATCHABLE; the loop ends as soon as O symbols are out. -/
def decodeKeyBits : Bits → State → Except Cause State
  | [], s => .ok s
  | b :: bs, s =>
    if s.decEmitted = s.decO then .ok s
    else
      match matchKey s.lut (s.key ++ [b]) with
      | some sym =>
        decodeKeyBits bs { s with pend := s.pend ++ [sym], decEmitted := s.decEmitted + 1, key := [] }
      | none =>
        if (s.key ++ [b]).length ≥ s.cbMaxlen.toNat then .error .unmatchable
        else decodeKeyBits bs { s with key := s.key ++ [b] }

/-- The end of R137: count the byte; after the C-th, either the payload was too short or the file is done. -/
def State.decodeCounted (s : State) (b : Byte) : State :=
  if s.decConsumed + 1 = s.decC then
    if s.decEmitted.toNat < s.decO.toNat then s.raise .payloadExhausted (Instr.value (.data b))
    else { s with decConsumed := s.decConsumed + 1, key := [], mode := .idle }
  else { s with decConsumed := s.decConsumed + 1 }

/-- DATA in DECODE: consume one payload byte (R137). -/
def State.decodeByte (s : State) (b : Byte) : State :=
  match decodeKeyBits (bitsOf b (nvalid s.decConsumed s.decC s.decP)) s with
  | .error c => s.raise c (Instr.value (.data b))
  | .ok s1 => s1.decodeCounted b

end Sys2Proof.Machine
end

