-- ==== Sys2Proof/Machine/Encoder.lean ====
section
/-! DEFINITION. The per-file encoder (45_encoder.md R129-R131). -/

namespace Sys2Proof.Machine

/-- ENC.BEGIN: the bit writer and the file's counters to 0, MODE <- ENCODE (R129). -/
def execEncBegin (s : State) : Host.Outcome State Fault Refusal :=
  .next (inMode .idle .encBegin s fun s =>
    { s with buf := 0, cnt := 0, origCount := 0, compCount := 0, padding := 0, mode := .encode })

/-- ENC.FLUSH: flush the bit writer, record its padding, MODE <- IDLE; legal only in ENCODE (R131). -/
def execEncFlush (s : State) : Host.Outcome State Fault Refusal :=
  .next (inMode .encode .encFlush s fun s => { s.bitFlush with padding := s.flushPad, mode := .idle })

/-- The check of R130: one more byte with a code of `len` bits would take ORIG_COUNT or, with the flush byte, COMP_COUNT past
2^32 - 1. -/
def State.lenOverflows (s : State) (len : Nat) : Bool :=
  s.origCount == BitVec.allOnes 32 || decide (s.compCount.toNat + (s.cnt.toNat + len + 7) / 8 > 2 ^ 32 - 1)

/-- DATA in ENCODE: the code of the byte goes to the bit writer (R130). -/
def State.encodeByte (s : State) (b : Byte) : State :=
  if (s.lutAt b).valid then
    if s.lenOverflows (s.lutAt b).len.toNat then s.raise .lenOverflow (Instr.value (.data b))
    else { s.bitPuts ((s.lutAt b).code.take (s.lutAt b).len.toNat) with origCount := s.origCount + 1 }
  else s.raise .missingSymbol (Instr.value (.data b))

end Sys2Proof.Machine
end

