-- ==== Sys2Proof/Machine/Histogram.lean ====
section
/-! DEFINITION. The frequency tabulator (42_histogram.md R105-R110). -/

namespace Sys2Proof.Machine

/-- HIST.CLEAR: every bin to 0 (R105). -/
def execHistClear (s : State) : Host.Outcome State Fault Refusal :=
  .next (inMode .idle .histClear s fun s => { s with hist := [] })

/-- HIST.BEGIN: MODE <- TABULATE (R106). -/
def execHistBegin (s : State) : Host.Outcome State Fault Refusal :=
  .next (inMode .idle .histBegin s fun s => { s with mode := .tabulate })

/-- HIST.END: MODE <- IDLE, legal only in TABULATE (R108). -/
def execHistEnd (s : State) : Host.Outcome State Fault Refusal :=
  .next (inMode .tabulate .histEnd s fun s => { s with mode := .idle })

/-- FREQ.SET s: HIST[s] <- ARG1:ARG0 (R109). -/
def execFreqSet (b : Byte) (s : State) : Host.Outcome State Fault Refusal :=
  .next (inMode .idle (.freqSet b) s fun s => s.setHist b s.arg64)

/-- FREQ.GET s: RESULT1 and RESULT2 take the low and high half of HIST[s], RESULT0 takes 0 (R110). -/
def execFreqGet (b : Byte) (s : State) : Host.Outcome State Fault Refusal :=
  .next (inMode .idle (.freqGet b) s fun s =>
    { s with result0 := 0, result1 := (s.histAt b).extractLsb' 0 32, result2 := (s.histAt b).extractLsb' 32 32 })

/-- DATA in TABULATE: count the byte, or raise when its bin is full (R107). -/
def State.tabulateByte (s : State) (b : Byte) : State :=
  if s.histAt b = BitVec.allOnes 64 then s.raise .freqOverflow (Instr.value (.data b))
  else s.setHist b (s.histAt b + 1)

end Sys2Proof.Machine
end

