-- ==== Sys2Proof/Machine/Data.lean ====
section
/-! DEFINITION. The DATA entry, whose meaning is chosen by MODE (30_encoding.md R78, 40_queue_control.md R89). -/

namespace Sys2Proof.Machine

/-- DATA b, its reserved bits already checked by the decoder (R89). No entry executes in ERROR (R78); log 7. -/
def execData (b : Byte) (s : State) : Host.Outcome State Fault Refusal :=
  .next (match s.mode with
    | .idle => s.raise .dataInIdle (Instr.value (.data b))
    | .tabulate => s.tabulateByte b
    | .encode => s.encodeByte b
    | .cbLoad => s.loadByte b
    | .decode => s.decodeByte b
    | .error => s)

end Sys2Proof.Machine
end

