-- ==== Sys2Proof/Machine/Queue.lean ====
section
/-! DEFINITION. NOP, the operand entries and the CTRL actions (40_queue_control.md R91-R96). Every meaning takes the state after the
execute step has dequeued and counted the entry (R84). -/

namespace Sys2Proof.Machine

/-- NOP: no effect beyond the execute step's own (R91). -/
def execNop (s : State) : Host.Outcome State Fault Refusal := .next s

/-- ARG0: ARG0 <- VALUE (R92). -/
def execArg0 (v : Word) (s : State) : Host.Outcome State Fault Refusal := .next { s with arg0 := v }

/-- ARG1: ARG1 <- VALUE (R92). -/
def execArg1 (v : Word) (s : State) : Host.Outcome State Fault Refusal := .next { s with arg1 := v }

/-- ARG2: ARG2 <- VALUE (R92). -/
def execArg2 (v : Word) (s : State) : Host.Outcome State Fault Refusal := .next { s with arg2 := v }

/-- CTRL.SOFT_RESET: the reset state, in every mode (R94, 70_reset_and_hazards.md R168). -/
def execCtrlSoftReset (s : State) : Host.Outcome State Fault Refusal := .next s.toReset

/-- CTRL.ABORT: cancellation, then the CLEAR_ERR of the same write if its bit is set (R93, R95, R157). -/
def execCtrlAbort (clear : Bool) (s : State) : Host.Outcome State Fault Refusal :=
  .next (if clear then s.abort.clearErr else s.abort)

/-- CTRL.CLEAR_ERR: the return from error (R96). -/
def execCtrlClearErr (s : State) : Host.Outcome State Fault Refusal := .next s.clearErr

end Sys2Proof.Machine
end

