-- ==== Sys2Proof/Machine/Tree.lean ====
section
/-! DEFINITION. The Huffman tree builder (43_tree_builder.md R112, R113, R119), with the tie-break of 00_scope.md R8. -/

namespace Sys2Proof.Machine

/-- The symbols BUILD sees: those with HIST[s] > 0, ascending (R111, R112). -/
def presentSymbols (hist : Memory (BitVec 64)) : List Nat :=
  (List.range 256).filter fun b => Memory.read 0 hist b ≠ 0

/-- The leaf of a symbol: its frequency is zext_72 of its bin (R112, R113). -/
def leafNode (hist : Memory (BitVec 64)) (b : Nat) : Node :=
  { leaf := true, sym := BitVec.ofNat 8 b, freq := (Memory.read 0 hist b).setWidth 72, left := 0, right := 0 }

/-- NODE[0..n-1]: one leaf for each symbol, in ascending order (R112). -/
def leafNodes (hist : Memory (BitVec 64)) (syms : List Nat) : Memory Node :=
  syms.zipIdx.foldl (fun m p => Memory.write Node.zero m p.2 (leafNode hist p.1)) []

/-- The order of extraction: the lesser (FREQ, index) first (R8, R112). -/
def nodeBefore (node : Memory Node) (i j : Nat) : Bool :=
  let fi := (Memory.read Node.zero node i).freq.toNat
  let fj := (Memory.read Node.zero node j).freq.toNat
  decide (fi < fj) || (decide (fi = fj) && decide (i < j))

/-- The first of a non-empty queue in the order of extraction: `i` is the best so far. -/
def leastOf (node : Memory Node) : Nat → List Nat → Nat
  | i, [] => i
  | i, j :: js => if nodeBefore node j i then leastOf node j js else leastOf node i js

/-- Taking the least element out of PQ (R112). -/
def extractLeast (node : Memory Node) : List Nat → Option (Nat × List Nat)
  | [] => none
  | i :: is => some (leastOf node i is, (i :: is).erase (leastOf node i is))

/-- The internal node over t1 and t2: left child t1, right child t2, the exact sum of their frequencies at 72 bits (R112, R113). -/
def joinNode (node : Memory Node) (t1 t2 : Nat) : Node :=
  { leaf := false, sym := 0,
    freq := (Memory.read Node.zero node t1).freq + (Memory.read Node.zero node t2).freq,
    left := BitVec.ofNat 9 t1, right := BitVec.ofNat 9 t2 }

/-- The loop of R112: while PQ holds two or more, join the two least under index `next`. It ends with the arena, PQ and `next`. Each
turn takes one element from PQ, so |PQ| turns are enough. -/
def joinLoop : Nat → Memory Node → List Nat → Nat → Memory Node × List Nat × Nat
  | 0, node, pq, next => (node, pq, next)
  | n + 1, node, pq, next =>
    match extractLeast node pq with
    | none => (node, pq, next)
    | some (t1, pq1) =>
      match extractLeast node pq1 with
      | none => (node, pq, next)
      | some (t2, pq2) => joinLoop n (Memory.write Node.zero node next (joinNode node t1 t2)) (pq2 ++ [next]) (next + 1)

/-- Walk(i, p) of R112: every leaf below node i gets its path as its code, "0" when the path is empty. The first argument bounds the
depth; a tree of R112 has at most 256 levels (R115). -/
def walk : Nat → Memory Node → Nat → Bits → Memory LutEntry → Memory LutEntry
  | 0, _, _, _, lut => lut
  | n + 1, node, i, p, lut =>
    if (Memory.read Node.zero node i).leaf then
      Memory.write LutEntry.absent lut (Memory.read Node.zero node i).sym.toNat
        (LutEntry.ofCode (if p.isEmpty then [false] else p))
    else
      walk n node (Memory.read Node.zero node i).right.toNat (p ++ [true])
        (walk n node (Memory.read Node.zero node i).left.toNat (p ++ [false]) lut)

/-- The largest LEN over a list of symbols (R112). -/
def maxLen (lut : Memory LutEntry) (syms : List Nat) : Nat :=
  syms.foldl (fun m b => max m (Memory.read LutEntry.absent lut b).len.toNat) 0

/-- BUILD's effect on a state: the arena and the LUT are replaced by the tree of HIST and its codes (R112). -/
def State.buildTree (s : State) : State :=
  let syms := presentSymbols s.hist
  let n := syms.length
  if n = 0 then s.clearCodebook
  else
    let tree := joinLoop n (leafNodes s.hist syms) (List.range n) n
    let root := tree.2.1.headD 0
    let lut := walk 256 tree.1 root [] []
    { s with
      node := tree.1, nodeCount := BitVec.ofNat 10 tree.2.2, treeValid := true, treeIndex := BitVec.ofNat 9 root,
      lut := lut, cbCount := BitVec.ofNat 9 n, cbMaxlen := BitVec.ofNat 9 (maxLen lut syms) }

/-- BUILD (R112). -/
def execBuild (s : State) : Host.Outcome State Fault Refusal := .next (inMode .idle .build s State.buildTree)

/-- RESULT0 of NODE.GET: VALID in bit 31, LEAF in bit 30, FREQ[71:64] in [29:22], and SYM in [7:0] for a leaf, RIGHT in [17:9] and LEFT
in [8:0] for an internal node (R119). -/
def Node.resultWord (n : Node) : Word :=
  1#1 ++ (BitVec.ofBool n.leaf ++ (n.freq.extractLsb' 64 8 ++ ((0 : BitVec 4) ++
    (if n.leaf then (0 : BitVec 10) ++ n.sym else n.right ++ n.left))))

/-- NODE.GET i: the node's fields to RESULT0, RESULT1 and RESULT2, or zeros when i ≥ NODE_COUNT (R119). -/
def execNodeGet (i : BitVec 9) (s : State) : Host.Outcome State Fault Refusal :=
  .next (inMode .idle (.nodeGet i) s fun s =>
    if i.toNat < s.nodeCount.toNat then
      { s with
        result0 := (s.nodeAt i.toNat).resultWord,
        result1 := (s.nodeAt i.toNat).freq.extractLsb' 0 32,
        result2 := (s.nodeAt i.toNat).freq.extractLsb' 32 32 }
    else { s with result0 := 0, result1 := 0, result2 := 0 })

end Sys2Proof.Machine
end

