-- ==== Sys2Proof/Machine/Dispatch.lean ====
section
/-! DEFINITION. One arm for each instruction (30_encoding.md R77, 40_queue_control.md R89, R93). -/

namespace Sys2Proof.Machine

/-- What an instruction does. -/
def exec (i : Instr) (s : State) : Host.Outcome State Fault Refusal :=
  match i with
  | .nop => Sys2Proof.Machine.execNop s
  | .histClear => Sys2Proof.Machine.execHistClear s
  | .histBegin => Sys2Proof.Machine.execHistBegin s
  | .histEnd => Sys2Proof.Machine.execHistEnd s
  | .freqSet sym => Sys2Proof.Machine.execFreqSet sym s
  | .freqGet sym => Sys2Proof.Machine.execFreqGet sym s
  | .build => Sys2Proof.Machine.execBuild s
  | .nodeGet idx => Sys2Proof.Machine.execNodeGet idx s
  | .cbClear => Sys2Proof.Machine.execCbClear s
  | .cbGet sym => Sys2Proof.Machine.execCbGet sym s
  | .cbEmit => Sys2Proof.Machine.execCbEmit s
  | .cbLoad => Sys2Proof.Machine.execCbLoad s
  | .encBegin => Sys2Proof.Machine.execEncBegin s
  | .encFlush => Sys2Proof.Machine.execEncFlush s
  | .decBegin => Sys2Proof.Machine.execDecBegin s
  | .data byte => Sys2Proof.Machine.execData byte s
  | .arg0 value => Sys2Proof.Machine.execArg0 value s
  | .arg1 value => Sys2Proof.Machine.execArg1 value s
  | .arg2 value => Sys2Proof.Machine.execArg2 value s
  | .ctrlSoftReset => Sys2Proof.Machine.execCtrlSoftReset s
  | .ctrlAbort clear => Sys2Proof.Machine.execCtrlAbort clear s
  | .ctrlClearErr => Sys2Proof.Machine.execCtrlClearErr s

end Sys2Proof.Machine
end

