-- ==== Sys2Proof/Machine/Flags.lean ====
section
/-! DEFINITION. The computed flags: BUSY (10_state.md R40), STATUS (R21), the IRQ line (60_exceptions.md R158), and the setting of
DONE_IP (40_queue_control.md R86). -/

namespace Sys2Proof.Machine

/-- The number of a mode (R37). -/
def Mode.number : Mode → BitVec 3
  | .idle => 0
  | .tabulate => 1
  | .encode => 2
  | .cbLoad => 3
  | .decode => 4
  | .error => 7

/-- BUSY: Q or PEND is non-empty (R40). -/
def State.busy (s : State) : Bool := !s.q.isEmpty || !s.pend.isEmpty

/-- The level of the IRQ output (R158). -/
def State.irq (s : State) : Bool := (s.doneIP && s.doneIE) || (s.errIP && s.errIE)

/-- |Q| = Q_DEPTH (R21). -/
def State.qFull (s : State) : Bool := s.q.length == Config.qDepth

/-- |OUT| = OUT_DEPTH (R21). -/
def State.outFull (s : State) : Bool := s.out.length == Config.outDepth

/-- The STATUS register, its fields from bit 31 down: zeros, IRQ, PEND, OUT_FULL, OUT_VALID, Q_EMPTY, Q_FULL, ERROR, BUSY, MODE (R21). -/
def State.statusWord (s : State) : Word :=
  (0 : BitVec 21) ++ (BitVec.ofBool s.irq ++ (BitVec.ofBool (!s.pend.isEmpty) ++ (BitVec.ofBool s.outFull ++
    (BitVec.ofBool (!s.out.isEmpty) ++ (BitVec.ofBool s.q.isEmpty ++ (BitVec.ofBool s.qFull ++
      (BitVec.ofBool (s.mode == .error) ++ (BitVec.ofBool s.busy ++ s.mode.number))))))))

/-- What every internal step ends with: DONE_IP is set if Q and PEND are empty and MODE is not ERROR (R86). -/
def State.complete (s : State) : State :=
  { s with doneIP := s.doneIP || (s.q.isEmpty && s.pend.isEmpty && s.mode != .error) }

end Sys2Proof.Machine
end

