-- ==== Sys2Proof/Machine/Registers.lean ====
section
/-! DEFINITION. The register window: the map of offsets (10_state.md R15), access types (R16), what a read returns (40_queue_control.md
R97) and the writes that are not CTRL writes (20_memory.md R59, R61). -/

namespace Sys2Proof.Machine

/-- The registers of the window (R15); `reserved` is every offset the table does not list. -/
inductive Reg where
  | id | version | qdepth | odepth | ctrl | status | irqEn | irqStatus
  | err | errInfo | errSeq | seq | qLevel | outLevel
  | qCmd | qData | qArg0 | qArg1 | qArg2 | outData
  | origCount | compCount | padding | bwState | cbCount | cbMaxlen | treeRoot | nodeCount
  | decEmitted | decConsumed | decKeylen | result0 | result1 | result2
  | codew (k : Fin 8)
  | reserved
deriving DecidableEq, Repr

/-- Access types (R16). -/
inductive AccessType where
  | ro | wo | rw | rw1c | queue | pop
deriving DecidableEq, Repr

/-- The register at an offset (R15, R63). -/
def regAt (o : Nat) : Reg :=
  match o with
  | 0x000 => .id
  | 0x004 => .version
  | 0x008 => .qdepth
  | 0x00C => .odepth
  | 0x010 => .ctrl
  | 0x014 => .status
  | 0x018 => .irqEn
  | 0x01C => .irqStatus
  | 0x020 => .err
  | 0x024 => .errInfo
  | 0x028 => .errSeq
  | 0x02C => .seq
  | 0x030 => .qLevel
  | 0x034 => .outLevel
  | 0x040 => .qCmd
  | 0x044 => .qData
  | 0x048 => .qArg0
  | 0x04C => .qArg1
  | 0x050 => .qArg2
  | 0x054 => .outData
  | 0x060 => .origCount
  | 0x064 => .compCount
  | 0x068 => .padding
  | 0x06C => .bwState
  | 0x070 => .cbCount
  | 0x074 => .cbMaxlen
  | 0x078 => .treeRoot
  | 0x07C => .nodeCount
  | 0x080 => .decEmitted
  | 0x084 => .decConsumed
  | 0x088 => .decKeylen
  | 0x090 => .result0
  | 0x094 => .result1
  | 0x098 => .result2
  | 0x0A0 => .codew 0
  | 0x0A4 => .codew 1
  | 0x0A8 => .codew 2
  | 0x0AC => .codew 3
  | 0x0B0 => .codew 4
  | 0x0B4 => .codew 5
  | 0x0B8 => .codew 6
  | 0x0BC => .codew 7
  | _ => .reserved

/-- The access type of a register (R15, R16). A reserved offset reads 0 and ignores writes, as a read-only 0. -/
def Reg.access : Reg → AccessType
  | .ctrl => .wo
  | .irqEn => .rw
  | .irqStatus => .rw1c
  | .qCmd => .queue
  | .qData => .queue
  | .qArg0 => .queue
  | .qArg1 => .queue
  | .qArg2 => .queue
  | .outData => .pop
  | .id => .ro
  | .version => .ro
  | .qdepth => .ro
  | .odepth => .ro
  | .status => .ro
  | .err => .ro
  | .errInfo => .ro
  | .errSeq => .ro
  | .seq => .ro
  | .qLevel => .ro
  | .outLevel => .ro
  | .origCount => .ro
  | .compCount => .ro
  | .padding => .ro
  | .bwState => .ro
  | .cbCount => .ro
  | .cbMaxlen => .ro
  | .treeRoot => .ro
  | .nodeCount => .ro
  | .decEmitted => .ro
  | .decConsumed => .ro
  | .decKeylen => .ro
  | .result0 => .ro
  | .result1 => .ro
  | .result2 => .ro
  | .codew _ => .ro
  | .reserved => .ro

/-- Group D of R15: a read while BUSY = 1 returns an unspecified value (R41). -/
def Reg.datapath : Reg → Bool
  | .qArg0 => true
  | .qArg1 => true
  | .qArg2 => true
  | .origCount => true
  | .compCount => true
  | .padding => true
  | .bwState => true
  | .cbCount => true
  | .cbMaxlen => true
  | .treeRoot => true
  | .nodeCount => true
  | .decEmitted => true
  | .decConsumed => true
  | .decKeylen => true
  | .result0 => true
  | .result1 => true
  | .result2 => true
  | .codew _ => true
  | .id => false
  | .version => false
  | .qdepth => false
  | .odepth => false
  | .ctrl => false
  | .status => false
  | .irqEn => false
  | .irqStatus => false
  | .err => false
  | .errInfo => false
  | .errSeq => false
  | .seq => false
  | .qLevel => false
  | .outLevel => false
  | .qCmd => false
  | .qData => false
  | .outData => false
  | .reserved => false

/-- The queue port a register is (R28, R29, R71). -/
def Reg.port : Reg → Option Port
  | .qCmd => some .cmd
  | .qData => some .data
  | .qArg0 => some .arg0
  | .qArg1 => some .arg1
  | .qArg2 => some .arg2
  | _ => none

/-- CODEWk: bits [32k+31:32k] of CODEW7:...:CODEW0 (R36, 44_codebook.md R123). -/
def State.codewReg (s : State) (k : Fin 8) : Word := s.codew.extractLsb' (32 * k.val) 32

/-- The word TREE_ROOT reads as: VALID in bit 31, INDEX in [8:0] (R34). -/
def State.treeRootWord (s : State) : Word := BitVec.ofBool s.treeValid ++ ((0 : BitVec 22) ++ s.treeIndex)

/-- The word BW_STATE reads as: CNT in [10:8], BUF in [7:0] (R32). -/
def State.bwStateWord (s : State) : Word := (0 : BitVec 21) ++ (s.cnt ++ s.buf)

/-- The word IRQ_EN reads as (R22). -/
def State.irqEnWord (s : State) : Word := (0 : BitVec 30) ++ (BitVec.ofBool s.errIE ++ BitVec.ofBool s.doneIE)

/-- The word IRQ_STATUS reads as (R23). -/
def State.irqStatusWord (s : State) : Word := (0 : BitVec 30) ++ (BitVec.ofBool s.errIP ++ BitVec.ofBool s.doneIP)

/-- The word OUT_DATA reads as: (1 << 8) | OUT.head, or 0 when OUT is empty (R30). -/
def State.outDataWord (s : State) : Word :=
  match s.out with
  | [] => 0
  | b :: _ => (1 : BitVec 24) ++ b

/-- The exact value of a register (R17-R36, R97). -/
def Reg.value (r : Reg) (s : State) : Word :=
  match r with
  | .id => 0x53514831
  | .version => 0x00000101
  | .qdepth => BitVec.ofNat 32 Config.qDepth
  | .odepth => BitVec.ofNat 32 Config.outDepth
  | .ctrl => 0
  | .status => s.statusWord
  | .irqEn => s.irqEnWord
  | .irqStatus => s.irqStatusWord
  | .err => s.err
  | .errInfo => s.errInfo
  | .errSeq => s.errSeq
  | .seq => s.seq
  | .qLevel => BitVec.ofNat 32 s.q.length
  | .outLevel => BitVec.ofNat 32 s.out.length
  | .qCmd => 0
  | .qData => 0
  | .qArg0 => s.arg0
  | .qArg1 => s.arg1
  | .qArg2 => s.arg2
  | .outData => s.outDataWord
  | .origCount => s.origCount
  | .compCount => s.compCount
  | .padding => s.padding.setWidth 32
  | .bwState => s.bwStateWord
  | .cbCount => s.cbCount.setWidth 32
  | .cbMaxlen => s.cbMaxlen.setWidth 32
  | .treeRoot => s.treeRootWord
  | .nodeCount => s.nodeCount.setWidth 32
  | .decEmitted => s.decEmitted
  | .decConsumed => s.decConsumed
  | .decKeylen => BitVec.ofNat 32 (s.key.length % 512)
  | .result0 => s.result0
  | .result1 => s.result1
  | .result2 => s.result2
  | .codew k => s.codewReg k
  | .reserved => 0

/-- A read of a datapath register while BUSY = 1 returns a free draw; every other read is exact (R41, R97). -/
def Reg.readValue (r : Reg) (s : State) : Word :=
  if r.datapath && s.busy then Config.freeDraw s.draws else r.value s

/-- What a read changes in the block: OUT_DATA pops OUT, nothing else does (R30, R59). -/
def Reg.readEffect (r : Reg) (s : State) : State :=
  match r.access with
  | .pop => { s with out := s.out.tail }
  | .ro => s
  | .wo => s
  | .rw => s
  | .rw1c => s
  | .queue => s

/-- A host read at an offset of the window: its effect, with the value noted among what the host has read, and a free draw counted if one
was made (R41, R97; log 2, log 3). -/
def State.hostRead (s : State) (o : Nat) : State :=
  { (regAt o).readEffect s with
    reads := s.reads ++ [{ offset := o, value := (regAt o).readValue s }],
    draws := if (regAt o).datapath && s.busy then s.draws + 1 else s.draws }

/-- A host write of `v` to a queue port: discarded in ERROR, IO.QUEUE_OVERFLOW when Q is full, else an entry (20_memory.md R61). -/
def State.portWrite (s : State) (p : Port) (v : Word) : State :=
  if s.mode = .error then s
  else if s.q.length = Config.qDepth then s.raiseHost .queueOverflow v
  else s.enqueue { port := p, value := v }

/-- A host write to a register other than CTRL: by access type (R16, 20_memory.md R59). -/
def State.regWrite (s : State) (r : Reg) (v : Word) : State :=
  match r.port with
  | some p => s.portWrite p v
  | none =>
    match r.access with
    | .rw => { s with doneIE := v.getLsbD 0, errIE := v.getLsbD 1 }
    | .rw1c => { s with doneIP := s.doneIP && !v.getLsbD 0, errIP := s.errIP && !v.getLsbD 1 }
    | .ro => s
    | .wo => s
    | .pop => s
    | .queue => s

end Sys2Proof.Machine
end

