-- ==== Sys2Proof/Machine/Execute.lean ====
section
/-! DEFINITION. The internal steps of the block (40_queue_control.md R84-R86), the host's accesses (20_memory.md R57-R61,
40_queue_control.md R93, R97), and the order in which they are taken (R88). -/

namespace Sys2Proof.Machine

/-- The outcome with `f` applied to a next state. -/
def onNext (f : State → State) : Host.Outcome State Fault Refusal → Host.Outcome State Fault Refusal
  | .next s => .next (f s)
  | .fault r => .fault r
  | .refused r => .refused r

/-! ## Internal steps -/

/-- The cause that a rejected entry raises (30_encoding.md R79, R80). A queued entry has one of the five ports and is no CTRL word, so the
last two reasons do not arise. -/
def rejectCause : Reject → Cause
  | .illegalOpcode => .illegalOpcode
  | .reservedField => .reservedField
  | .unreachablePort => .illegalOpcode
  | .noAction => .illegalOpcode

/-- dispatch(e), on the state after the entry has been taken from Q and counted: the decode checks of R79, then the instruction (R89). -/
def dispatchEntry (e : Entry) (s : State) : Host.Outcome State Fault Refusal :=
  match decodeEntry e with
  | .ok i => exec i s
  | .error r => .next (s.raise (rejectCause r) e.value)

/-- The execute step is enabled (R84). -/
def State.canExecute (s : State) : Bool := s.mode != .error && s.pend.isEmpty && !s.q.isEmpty

/-- The execute step (R84, R86). -/
def executeStep (s : State) : Host.Outcome State Fault Refusal :=
  match s.q with
  | [] => .next s
  | e :: _ => onNext State.complete (dispatchEntry e s.dequeue)

/-- The drain step is enabled (R85). -/
def State.canDrain (s : State) : Bool := !s.pend.isEmpty && decide (s.out.length < Config.outDepth)

/-- The drain step (R85, R86). -/
def drainStep (s : State) : State := s.drainByte.complete

/-- An internal step is enabled (R88). At most one is: R84 needs PEND empty and R85 needs it non-empty. -/
def State.canMove (s : State) : Bool := s.canExecute || s.canDrain

/-- The block's move: the enabled internal step, or nothing when none is enabled (R88). -/
def blockMove (s : State) : Host.Outcome State Fault Refusal :=
  if s.canExecute then executeStep s
  else if s.canDrain then .next (drainStep s)
  else .next s

/-! ## Host accesses -/

/-- A write to CTRL acts at once, bypassing the queue; a word with no action does nothing (R93, 70_reset_and_hazards.md R176). -/
def ctrlWrite (w : Word) (s : State) : Host.Outcome State Fault Refusal :=
  match decodeCtrl w with
  | .ok i => exec i s
  | .error _ => .next s

/-- A defined access at an offset of the window (R58, R59). -/
def windowAccess (k : AccessKind) (o : Nat) (s : State) : Host.Outcome State Fault Refusal :=
  match k with
  | .read => .next (s.hostRead o)
  | .write v =>
    match regAt o with
    | .ctrl => ctrlWrite v s
    | r => .next (s.regWrite r v)

/-- One host access: refused outside the window or where it is a bus error (R52, R57; log 5). -/
def hostAccess (a : Access) (s : State) : Host.Outcome State Fault Refusal :=
  if !a.inWindow then .refused .outsideWindow
  else if !(a.wordWide && a.aligned) then .refused .busError
  else windowAccess a.kind a.offset.toNat s

/-- The host's move: its next access in program order, or nothing when it makes none (R65, R88). -/
def hostMove (s : State) : Host.Outcome State Fault Refusal :=
  match s.accesses with
  | [] => .next s
  | a :: rest => hostAccess a { s with accesses := rest }

/-! ## Scheduling -/

/-- Who moves next: the head of `turns`; when that list is empty the block while an internal step is enabled, then the host (R88;
log 1). -/
def State.nextTurn (s : State) : Turn :=
  match s.turns with
  | t :: _ => t
  | [] => if s.canMove then .block else .host

/-- One move of the agent whose turn it is; the platform's reset signal puts the block in the reset state (70_reset_and_hazards.md R167;
log 14). -/
def move (t : Turn) (s : State) : Host.Outcome State Fault Refusal :=
  match t with
  | .block => blockMove s
  | .host => hostMove s
  | .hardReset => .next s.toReset

/-! ## Placing one instruction -/

/-- The block's next move executes `e`: it is the head of Q, PEND is empty and MODE is not ERROR, as the execute step needs (R84), and the
block moves next. -/
def State.placeEntry (s : State) (e : Entry) : State :=
  { s with
    q := e :: s.q.tail, pend := [], mode := if s.mode = .error then .idle else s.mode,
    turns := .block :: s.turns }

/-- The host's next move writes `w` to CTRL (R76). -/
def State.placeCtrl (s : State) (w : Word) : State :=
  { s with
    accesses := { kind := .write w, offset := 0x010, width := 32 } :: s.accesses, turns := .host :: s.turns }

end Sys2Proof.Machine
end

