-- ==== Sys2Proof/Machine/Step.lean ====
section
/-! DEFINITION. One step of the machine: one atomic move of the block, of the host or of the reset signal (10_state.md R14,
40_queue_control.md R88, 70_reset_and_hazards.md R179). -/

namespace Sys2Proof.Machine

/-- One step: the agent whose turn it is moves. -/
def step (s : State) : Host.Outcome State Fault Refusal := move s.nextTurn { s with turns := s.turns.tail }

/-- The state in which the very next step runs exactly the instruction that stands for `w` in opcode_table.json's numbering (log 10). -/
def State.withFetchWord (s : State) (nbits w : Nat) : State :=
  match tableWord nbits w with
  | some (.entry e) => s.placeEntry e
  | some (.ctrl w) => s.placeCtrl w
  | none => s

end Sys2Proof.Machine
end

