-- ==== Sys2Proof/Machine/HostArchive.lean ====
section
/-! DEFINITION. The reference host: flow-controlled writes (70_reset_and_hazards.md R175), WAIT and DRAIN (30_encoding.md R83), Release
(47_host_archive.md R148), and the archive procedures HostEncode (R142) and HostDecode (R144). A host procedure makes register accesses
one at a time; between two accesses the machine takes the steps that its schedule gives. Loops carry a bound, since a host may wait for
ever (R174; log 15). -/

namespace Sys2Proof.Machine

/-! ## The host's own data -/

/-- The error kinds a host reports (R147). -/
inductive HostError where
  | corrupted | versionMismatch | io | internal
deriving DecidableEq, Repr

/-- Why a host procedure ends without a result. -/
inductive HostStop where
  /-- It reports an error (R147). -/
  | failed (k : HostError)
  /-- A `require STATUS.MODE = IDLE` does not hold (R142, R144). -/
  | notIdle
  /-- A file name of 2^32 bytes or more, which D66 puts outside the model: no claim is made (log 16). -/
  | nameOutsideModel
  /-- A loop has used up its bound: no claim is made (log 15). -/
  | outOfFuel
  /-- The machine refused an access; the procedures make none that it refuses. -/
  | refused
deriving DecidableEq, Repr

/-- The block with its surroundings, and the output bytes the host has kept while it waited for room in the queue (R175). -/
structure HostState where
  dev  : State
  kept : List Byte
deriving DecidableEq, Repr

/-- A host procedure: it changes the host's state, and gives a result or stops. -/
abbrev Proc (α : Type) := ExceptT HostStop (StateM HostState) α

/-- Running a host procedure from a host state. -/
def hostRun {α : Type} (p : Proc α) (h : HostState) : Except HostStop α × HostState := p h

/-! ## Accesses -/

/-- Steps of the machine until the host has made every access it has asked for. -/
def settle : Nat → State → Except HostStop State
  | 0, s => if s.accesses.isEmpty then .ok s else .error .outOfFuel
  | n + 1, s =>
    if s.accesses.isEmpty then .ok s
    else
      match step s with
      | .next t => settle n t
      | .fault _ => .error .refused
      | .refused _ => .error .refused

/-- What the last read returned. -/
def State.lastRead (s : State) : Word :=
  match s.reads.getLast? with
  | some r => r.value
  | none => 0

/-- One access, and what a read returns. -/
def hostDo (fuel : Nat) (a : Access) : Proc Word := fun h =>
  match settle fuel { h.dev with accesses := h.dev.accesses ++ [a] } with
  | .error e => (.error e, h)
  | .ok t => (.ok t.lastRead, { h with dev := t })

/-- RD: read the register at an offset (30_encoding.md R82). -/
def hostRd (fuel o : Nat) : Proc Word := hostDo fuel { kind := .read, offset := (o : Int), width := 32 }

/-- WR: write the register at an offset (30_encoding.md R82). -/
def hostWr (fuel o : Nat) (v : Word) : Proc Unit := do
  let _ ← hostDo fuel { kind := .write v, offset := (o : Int), width := 32 }
  pure ()

/-- Keep one output byte. -/
def hostKeep (b : Byte) : Proc Unit := fun h => (.ok (), { h with kept := h.kept ++ [b] })

/-- The bytes kept so far, which are then forgotten. -/
def hostTakeKept : Proc (List Byte) := fun h => (.ok h.kept, { h with kept := [] })

/-! ## Flow control and waiting -/

/-- The offset of a queue port (10_state.md R15). -/
def Port.offset : Port → Nat
  | .cmd => 0x040
  | .data => 0x044
  | .arg0 => 0x048
  | .arg1 => 0x04C
  | .arg2 => 0x050

/-- PUT(port, v), with a bound on its loop (70_reset_and_hazards.md R175). -/
def hostPutLoop (fuel o : Nat) (v : Word) : Nat → Proc Unit
  | 0 => throw .outOfFuel
  | n + 1 => do
    let st ← hostRd fuel 0x014
    if st.extractLsb' 0 3 = 7 then pure ()
    else if st.getLsbD 5 then
      if st.getLsbD 7 then
        let d ← hostRd fuel 0x054
        hostKeep (d.extractLsb' 0 8)
      hostPutLoop fuel o v n
    else hostWr fuel o v

/-- Writing a queued instruction with flow control; a CTRL action is a plain write to CTRL (R76, R175). -/
def hostPut (fuel : Nat) (i : Instr) : Proc Unit :=
  match i.port with
  | some p => hostPutLoop fuel (Port.offset p) i.value fuel
  | none => hostWr fuel 0x010 i.value

/-- BYTES: one DATA entry for each byte, in order (30_encoding.md R83). -/
def hostBytes (fuel : Nat) : List Byte → Proc Unit
  | [] => pure ()
  | b :: bs => do
    hostPut fuel (.data b)
    hostBytes fuel bs

/-- DRAIN: read OUT_DATA until bit 8 of what it returns is 0 (30_encoding.md R83). -/
def hostDrainLoop (fuel : Nat) : Nat → Proc Unit
  | 0 => throw .outOfFuel
  | n + 1 => do
    let d ← hostRd fuel 0x054
    if d.getLsbD 8 then
      hostKeep (d.extractLsb' 0 8)
      hostDrainLoop fuel n
    else pure ()

/-- Read OUT_DATA while STATUS.OUT_VALID = 1 (30_encoding.md R83, WAIT). -/
def hostPopLoop (fuel : Nat) : Nat → Proc Unit
  | 0 => throw .outOfFuel
  | n + 1 => do
    let st ← hostRd fuel 0x014
    if st.getLsbD 7 then
      let d ← hostRd fuel 0x054
      hostKeep (d.extractLsb' 0 8)
      hostPopLoop fuel n
    else pure ()

/-- WAIT's loop: pop what is there, until STATUS.BUSY = 0, then DRAIN (30_encoding.md R83). -/
def hostWaitLoop (fuel : Nat) : Nat → Proc Unit
  | 0 => throw .outOfFuel
  | n + 1 => do
    hostPopLoop fuel fuel
    let st ← hostRd fuel 0x014
    if st.getLsbD 3 then hostWaitLoop fuel n
    else hostDrainLoop fuel fuel

/-- WAIT: every output byte kept since the last WAIT (30_encoding.md R83, 70_reset_and_hazards.md R175). -/
def hostWait (fuel : Nat) : Proc (List Byte) := do
  hostWaitLoop fuel fuel
  hostTakeKept

/-! ## Errors and release -/

/-- The kind reported for ERR.KIND (R147). -/
def hostErrorOf (kind : BitVec 4) : HostError :=
  if kind = 1 then .corrupted
  else if kind = 2 then .versionMismatch
  else if kind = 3 then .io
  else .internal

/-- STATUS.MODE. -/
def hostMode (fuel : Nat) : Proc (BitVec 3) := do
  let st ← hostRd fuel 0x014
  pure (st.extractLsb' 0 3)

/-- Release(): CTRL = 4 in ERROR, CTRL = 6 elsewhere, then clear both bits of IRQ_STATUS (R148). -/
def hostRelease (fuel : Nat) : Proc Unit := do
  let m ← hostMode fuel
  hostWr fuel 0x010 (if m = 7 then 4 else 6)
  hostWr fuel 0x01C 3

/-- Check(): in ERROR, read ERR, release and fail with its kind (R142). -/
def hostCheck (fuel : Nat) : Proc Unit := do
  let m ← hostMode fuel
  if m = 7 then
    let e ← hostRd fuel 0x020
    hostRelease fuel
    throw (.failed (hostErrorOf (e.extractLsb' 8 4)))
  else pure ()

/-- `require STATUS.MODE = IDLE` (R142, R144). -/
def hostRequireIdle (fuel : Nat) : Proc Unit := do
  let m ← hostMode fuel
  if m = 0 then pure () else throw .notIdle

/-! ## The archive's bytes -/

/-- The text "squash" in ASCII (R139). -/
def magicText : List Byte := [0x73, 0x71, 0x75, 0x61, 0x73, 0x68]

/-- The text "--version" in ASCII (R139). -/
def tagText : List Byte := [0x2D, 0x2D, 0x76, 0x65, 0x72, 0x73, 0x69, 0x6F, 0x6E]

/-- HEADER, the 27 bytes that begin every archive (R140). -/
def archiveHeader : List Byte := u32be 6 ++ magicText ++ u32be 9 ++ tagText ++ u32be 1

/-- The text ".tar.sq" in ASCII (R142). -/
def archiveSuffix : List Byte := [0x2E, 0x74, 0x61, 0x72, 0x2E, 0x73, 0x71]

/-- A file entry: name_len, name, O, C, P, payload (R139, R141). The spec gives a name of 2^32 bytes or more no entry (R142, D66); what this
expression gives for one, name_len modulo 2^32, is no behaviour of the host, and `hostEncode` stops before it comes here (log 16). -/
def fileEntryBytes (name : List Byte) (o c p : Word) (payload : List Byte) : List Byte :=
  u32be (BitVec.ofNat 32 name.length) ++ name ++ u32be o ++ u32be c ++ u32be p ++ payload

/-- A file: its name and its contents, both opaque bytes (R141). -/
abbrev ArchiveFile := List Byte × List Byte

/-! ## HostEncode (R142) -/

/-- LDFREQ s, f: ARG0 and ARG1 take the low and the high half of the frequency, then FREQ.SET s (30_encoding.md R83). -/
def hostLdfreq (fuel : Nat) (s : Byte) (f : BitVec 64) : Proc Unit := do
  hostPut fuel (.arg0 (f.extractLsb' 0 32))
  hostPut fuel (.arg1 (f.extractLsb' 32 32))
  hostPut fuel (.freqSet s)

/-- TABULATE: HIST.BEGIN, the bytes, HIST.END (30_encoding.md R83). -/
def hostTabulate (fuel : Nat) (bytes : List Byte) : Proc Unit := do
  hostPut fuel .histBegin
  hostBytes fuel bytes
  hostPut fuel .histEnd

/-- Pass 1: tabulate every file (R142). -/
def hostTabulateAll (fuel : Nat) : List ArchiveFile → Proc Unit
  | [] => pure ()
  | f :: fs => do
    hostTabulate fuel f.2
    hostTabulateAll fuel fs

/-- Pass 2 for one file: encode it, and frame its payload (R142). -/
def hostEncodeFile (fuel : Nat) (f : ArchiveFile) : Proc (List Byte) := do
  hostPut fuel .encBegin
  hostBytes fuel f.2
  hostPut fuel .encFlush
  let payload ← hostWait fuel
  hostCheck fuel
  let o ← hostRd fuel 0x060
  let c ← hostRd fuel 0x064
  let p ← hostRd fuel 0x068
  pure (fileEntryBytes f.1 o c p payload)

/-- Pass 2 for every file, in order (R142). -/
def hostEncodeAll (fuel : Nat) : List ArchiveFile → Proc (List Byte)
  | [] => pure []
  | f :: fs => do
    let a ← hostEncodeFile fuel f
    let b ← hostEncodeAll fuel fs
    pure (a ++ b)

/-- The precondition of HostEncode: every name is shorter than 2^32 bytes (R142, D66). Without it the procedure stops, which is the model's
choice (log 16). -/
def hostRequireNames (files : List ArchiveFile) : Proc Unit :=
  if files.all fun f => decide (f.1.length < 2 ^ 32) then pure () else throw .nameOutsideModel

/-- HostEncode(uid, files): the archive and the suggested file name (R142). -/
def hostEncode (fuel : Nat) (uid : List Byte) (files : List ArchiveFile) : Proc (List Byte × List Byte) := do
  hostRequireNames files
  hostRequireIdle fuel
  hostPut fuel .histClear
  hostTabulateAll fuel files
  hostPut fuel .build
  hostPut fuel .cbEmit
  let cb ← hostWait fuel
  hostCheck fuel
  let entries ← hostEncodeAll fuel files
  pure (archiveHeader ++ cb ++ entries, uid ++ archiveSuffix)

/-! ## HostDecode (R144) -/

/-- Take(n) on what is left of the archive; none is a short read (R144). -/
def takeBytes (n : Nat) (a : List Byte) : Option (List Byte × List Byte) :=
  if a.length < n then none else some (a.take n, a.drop n)

/-- The big-endian value of a list of bytes (R144). -/
def beValue (bs : List Byte) : Nat := bs.foldl (fun v b => v * 256 + b.toNat) 0

/-- What is wrong with a header: a short read, a wrong text or length, or a wrong version (R144, R147). -/
inductive HeaderFault where
  | short | corrupted | versionMismatch
deriving DecidableEq, Repr

/-- U32() must be `v` (R144). -/
def expectU32 (v : Nat) (bad : HeaderFault) (a : List Byte) : Except HeaderFault (List Byte) :=
  match takeBytes 4 a with
  | none => .error .short
  | some (x, rest) => if beValue x = v then .ok rest else .error bad

/-- Take(|t|) must be the text `t` (R144). -/
def expectText (t : List Byte) (a : List Byte) : Except HeaderFault (List Byte) :=
  match takeBytes t.length a with
  | none => .error .short
  | some (x, rest) => if x = t then .ok rest else .error .corrupted

/-- Steps 1 to 3 of HostDecode: the magic, the tag and the version; what follows the header is the result (R144). -/
def readHeader (a : List Byte) : Except HeaderFault (List Byte) :=
  ((((expectU32 6 .corrupted a).bind (expectText magicText)).bind (expectU32 9 .corrupted)).bind (expectText tagText)).bind
    (expectU32 1 .versionMismatch)

/-- Take(n): a short read releases the block and fails CORRUPTED (R144). -/
def hostTake (fuel n : Nat) (a : List Byte) : Proc (List Byte × List Byte) :=
  match takeBytes n a with
  | some r => pure r
  | none => do
    hostRelease fuel
    throw (.failed .corrupted)

/-- The codebook entries: the symbol and length bytes, then the digits, sent on to the block (R144 step 4). -/
def hostSendEntries (fuel : Nat) : Nat → List Byte → Proc (List Byte)
  | 0, a => pure a
  | n + 1, a => do
    let h ← hostTake fuel 3 a
    let d ← hostTake fuel (beValue (h.1.drop 1)) h.2
    hostBytes fuel (h.1 ++ d.1)
    hostSendEntries fuel n d.2

/-- DECODE o, c, p and the payload (30_encoding.md R83, R144 step 5). -/
def hostDecodeFile (fuel : Nat) (o c p : Nat) (payload : List Byte) : Proc (List Byte) := do
  hostPut fuel (.arg0 (BitVec.ofNat 32 o))
  hostPut fuel (.arg1 (BitVec.ofNat 32 c))
  hostPut fuel (.arg2 (BitVec.ofNat 32 p))
  hostPut fuel .decBegin
  hostBytes fuel payload
  let out ← hostWait fuel
  hostCheck fuel
  pure out

/-- The file loop: it ends only where no byte is left at the start of a file entry (R144 step 5, R145). -/
def hostDecodeFiles (fuel : Nat) : Nat → List Byte → Proc (List ArchiveFile)
  | 0, _ => throw .outOfFuel
  | n + 1, a =>
    if a.isEmpty then pure []
    else do
      let nl ← hostTake fuel 4 a
      let name ← hostTake fuel (beValue nl.1) nl.2
      let o ← hostTake fuel 4 name.2
      let c ← hostTake fuel 4 o.2
      let p ← hostTake fuel 4 c.2
      let payload ← hostTake fuel (beValue c.1) p.2
      let out ← hostDecodeFile fuel (beValue o.1) (beValue c.1) (beValue p.1) payload.1
      let rest ← hostDecodeFiles fuel n payload.2
      pure ((name.1, out) :: rest)

/-- Steps 4 and 5 of HostDecode (R144). -/
def hostDecodeBody (fuel : Nat) (a : List Byte) : Proc (List ArchiveFile) := do
  hostRequireIdle fuel
  let cnt ← hostTake fuel 4 a
  hostPut fuel .cbLoad
  hostBytes fuel cnt.1
  let rest ← if beValue cnt.1 ≤ 256 then hostSendEntries fuel (beValue cnt.1) cnt.2 else pure cnt.2
  let _ ← hostWait fuel
  hostCheck fuel
  hostDecodeFiles fuel fuel rest

/-- HostDecode(A): the files in archive order, or one error (R144, R146). -/
def hostDecode (fuel : Nat) (a : List Byte) : Proc (List ArchiveFile) :=
  match readHeader a with
  | .error .short => do
    hostRelease fuel
    throw (.failed .corrupted)
  | .error .corrupted => throw (.failed .corrupted)
  | .error .versionMismatch => throw (.failed .versionMismatch)
  | .ok rest => hostDecodeBody fuel rest

end Sys2Proof.Machine
end

