-- ==== Sys2Proof/Safety.lean ====
section
/-! DEFINITION. The terms that claims use: what a run is, which runs are safe, the state an error leaves, the invariants the spec states
of the block, and the plain reading of bit streams and codebooks that the machine is compared with. -/

namespace Sys2Proof

/-- The modes in which an instruction is legal (30_encoding.md R78); a CTRL write acts in every mode (40_queue_control.md R94-R96). -/
def Instr.legalIn (i : Instr) (m : Machine.Mode) : Prop :=
  match i with
  | .nop => m ≠ .error
  | .arg0 _ => m ≠ .error
  | .arg1 _ => m ≠ .error
  | .arg2 _ => m ≠ .error
  | .data _ => m ≠ .error ∧ m ≠ .idle
  | .histEnd => m = .tabulate
  | .encFlush => m = .encode
  | .ctrlSoftReset => True
  | .ctrlAbort _ => True
  | .ctrlClearErr => True
  | .histClear => m = .idle
  | .histBegin => m = .idle
  | .freqSet _ => m = .idle
  | .freqGet _ => m = .idle
  | .build => m = .idle
  | .nodeGet _ => m = .idle
  | .cbClear => m = .idle
  | .cbGet _ => m = .idle
  | .cbEmit => m = .idle
  | .cbLoad => m = .idle
  | .encBegin => m = .idle
  | .decBegin => m = .idle

/-- The instruction is a command: a CMD entry (30_encoding.md R77). -/
def Instr.isCommand (i : Instr) : Bool := i.port == some .cmd

end Sys2Proof

namespace Sys2Proof.Machine

/-! ## Runs -/

/-- A run never stops: from `s`, however many steps are taken, there is a next state. -/
def SafeRun (s : State) : Prop := ∀ k, ∃ t, core.run k s = .next t

/-- Every access the host is going to make is one the block defines (20_memory.md R52, R57). -/
def State.hostWellBehaved (s : State) : Prop := ∀ a ∈ s.accesses, a.wellFormed = true

/-- Instructions one after another, as the execute step performs them on the entries of Q (40_queue_control.md R84, R90). -/
def runInstrs : List Instr → State → Host.Outcome State Fault Refusal
  | [], s => .next s
  | i :: is, s =>
    match exec i s with
    | .next t => runInstrs is t
    | .fault r => .fault r
    | .refused r => .refused r

/-- The block is quiescent: Q and PEND are empty (10_state.md R40). -/
def State.quiescent (s : State) : Prop := s.q = [] ∧ s.pend = []

/-- The move of the next step is the block's: it is named by `turns`, or `turns` is empty and an internal step is enabled. -/
def State.blockIsNext (s : State) : Prop := s.turns.head? = some .block ∨ (s.turns = [] ∧ s.canMove = true)

/-- The move of the next step is the host's: it is named by `turns`, or `turns` is empty and no internal step is enabled. -/
def State.hostIsNext (s : State) : Prop := s.turns.head? = some .host ∨ (s.turns = [] ∧ s.canMove = false)

/-! ## What an error leaves -/

/-- The state that error entry leaves (60_exceptions.md R154): the three error registers written, SEQ, IRQ_EN and DONE_IP kept, ERR_IP set,
MODE = ERROR, every other item of the block as after reset. -/
def errorState (s : State) (err info eseq : Word) : State :=
  { State.reset with
    mode := .error, err := err, errInfo := info, errSeq := eseq, seq := s.seq,
    doneIE := s.doneIE, errIE := s.errIE, doneIP := s.doneIP, errIP := true,
    accesses := s.accesses, turns := s.turns, reads := s.reads, draws := s.draws }

/-- What one rule of the spec says of a command beside its effect: its word, USAGE.RESERVED_FIELD (0x502) when an OPERAND bit from `used`
up is 1, and USAGE.ILLEGAL_IN_MODE (0x503) in every other mode (30_encoding.md R73, R78, R79). The raises are those of the state after
the entry has been taken and counted. -/
def CommandRaises (i : Instr) (op used : Nat) (m : Mode) (s : State) : Prop :=
  (∃ v : Word, encode i = .entry { port := .cmd, value := v } ∧ v.toNat / 2 ^ 24 = op) ∧
  (∀ v : Word, v.toNat / 2 ^ 24 = op → 2 ^ used ≤ v.toNat % 2 ^ 24 →
    dispatchEntry { port := .cmd, value := v } s = .next (errorState s 0x502 v (s.seq - 1))) ∧
  (s.mode ≠ m → exec i s = .next (errorState s 0x503 i.value (s.seq - 1)))

/-! ## Invariants -/

/-- HIST, NODE and LUT are in canonical form, over 256, 511 and 256 cells (10_state.md R42, R43, R44; log 8). -/
def MemoriesCanonical (s : State) : Prop :=
  Memory.wf 0 256 s.hist = true ∧ Memory.wf Node.zero 511 s.node = true ∧ Memory.wf LutEntry.absent 256 s.lut = true

/-- Q and OUT hold no more than their depths (20_memory.md R60). -/
def QueuesBounded (s : State) : Prop := s.q.length ≤ Config.qDepth ∧ s.out.length ≤ Config.outDepth

/-- The error registers are 0 outside ERROR, and in ERROR every item that error entry resets is at its reset value (60_exceptions.md R154,
R156); the host may have cleared ERR_IP since. -/
def ErrorModeClean (s : State) : Prop :=
  (s.mode ≠ .error → s.err = 0 ∧ s.errInfo = 0 ∧ s.errSeq = 0) ∧
  (s.mode = .error → s.err ≠ 0 ∧ s = { errorState s s.err s.errInfo s.errSeq with errIP := s.errIP })

/-- The bit writer's bits above CNT are zero (41_bitstream.md R99), CNT is 0 outside ENCODE, and COMP_COUNT has room for the flush byte
(45_encoder.md R130, R131). -/
def EncoderSound (s : State) : Prop :=
  s.buf.toNat < 2 ^ s.cnt.toNat ∧ (s.mode ≠ .encode → s.cnt = 0) ∧
  s.compCount.toNat + (s.cnt.toNat + 7) / 8 ≤ 2 ^ 32 - 1

/-- KEY is empty outside DECODE; in DECODE it is empty or shorter than CB_MAXLEN, no more than O symbols are out, and fewer than C bytes are
consumed (46_decoder.md R137). -/
def DecoderSound (s : State) : Prop :=
  (s.mode ≠ .decode → s.key = []) ∧
  (s.mode = .decode →
    (s.key = [] ∨ s.key.length < s.cbMaxlen.toNat) ∧ s.decEmitted.toNat ≤ s.decO.toNat ∧ s.decConsumed.toNat < s.decC.toNat)

/-- One LUT entry as R44 has it: VALID with LEN in 1..256 and a code of LEN bits, or all reset. -/
def LutEntry.sound (e : LutEntry) : Prop :=
  (e.valid = true ∧ 1 ≤ e.len.toNat ∧ e.len.toNat ≤ 256 ∧ e.code.length = e.len.toNat) ∨ e = LutEntry.absent

/-- Every LUT entry is as R44 has it. -/
def LutSound (s : State) : Prop := ∀ b : Byte, (s.lutAt b).sound

/-- The codebook parser is at reset outside CB_LOAD; in CB_LOAD the code being taken is shorter than its length, a length of 1..256
(10_state.md R47, 44_codebook.md R126). -/
def ParserSound (s : State) : Prop :=
  (s.mode ≠ .cbLoad →
    s.phase = .count ∧ s.acc = 0 ∧ s.idx = 0 ∧ s.cntTotal = 0 ∧ s.doneCount = 0 ∧ s.csym = 0 ∧ s.clen = 0 ∧ s.ccode = []) ∧
  (s.phase = .digits → 1 ≤ s.clen.toNat ∧ s.clen.toNat ≤ 256 ∧ s.ccode.length < s.clen.toNat)

/-- The symbols with a valid LUT entry, ascending. -/
def State.validSymbols (s : State) : List Byte :=
  ((List.range 256).map (BitVec.ofNat 8)).filter fun b => (s.lutAt b).valid

/-- CB_COUNT counts the valid entries and CB_MAXLEN is their largest LEN, or 0 (10_state.md R48 a, b). -/
def CodebookCounted (s : State) : Prop :=
  s.cbCount.toNat = s.validSymbols.length ∧
  s.cbMaxlen.toNat = (s.validSymbols.map fun b => (s.lutAt b).len.toNat).foldl max 0

/-- No two valid entries have equal LEN and CODE (10_state.md R48 c). -/
def CodesDistinct (s : State) : Prop :=
  ∀ a b : Byte, (s.lutAt a).valid = true → (s.lutAt b).valid = true →
    (s.lutAt a).len = (s.lutAt b).len → (s.lutAt a).code = (s.lutAt b).code → a = b

/-- In CB_LOAD the parser has committed CB_COUNT entries, none before the count is in, fewer than the CNT_TOTAL ≤ 256 declared after it,
and the symbol it has taken has no entry yet (44_codebook.md R126). -/
def LoadCounted (s : State) : Prop :=
  s.mode = .cbLoad →
    s.cbCount = s.doneCount ∧ s.treeValid = false ∧ (s.phase = .count → s.doneCount = 0) ∧
    (s.phase ≠ .count → s.doneCount.toNat < s.cntTotal.toNat ∧ s.cntTotal.toNat ≤ 256) ∧
    (s.phase = .len ∨ s.phase = .digits → (s.lutAt s.csym).valid = false)

/-- While TREE_ROOT.VALID = 1, NODE_COUNT = 2 x CB_COUNT - 1 and the LUT holds exactly the codes of the tree in NODE (10_state.md R48 d); a
tree is never valid in CB_LOAD. -/
def TreeMatchesLut (s : State) : Prop :=
  (s.treeValid = true →
    s.nodeCount.toNat + 1 = 2 * s.cbCount.toNat ∧ s.lut = walk 256 s.node s.treeIndex.toNat [] []) ∧
  (s.mode = .cbLoad → s.treeValid = false)

/-- The codebook is prefix-free (43_tree_builder.md R116). -/
def CodesPrefixFree (s : State) : Prop :=
  ∀ a b : Byte, a ≠ b → (s.lutAt a).valid = true → (s.lutAt b).valid = true → ¬ (s.lutAt a).code <+: (s.lutAt b).code

/-! ## Bit streams and codebooks, read plainly -/

/-- The low `n` bits of a byte, the most significant of them first. -/
def lowBits (b : Byte) (n : Nat) : Bits := (List.range n).map fun i => b.getLsbD (n - 1 - i)

/-- The bits of a list of bytes, bit 7 of each first (20_memory.md R55). -/
def byteBits (bs : List Byte) : Bits := bs.flatMap fun b => lowBits b 8

/-- The bits the writer has been given so far: those in PEND's bytes, then the CNT bits of BUF. -/
def State.writtenBits (s : State) : Bits := byteBits s.pend ++ lowBits s.buf s.cnt.toNat

/-- The codes of a list of bytes, one after another (45_encoder.md R132). -/
def State.codesOf (s : State) (xs : List Byte) : Bits := xs.flatMap fun x => (s.lutAt x).code

/-- The number a bit sequence writes, its first bit the most significant (44_codebook.md R123). -/
def bitsNat (c : Bits) : Nat := c.foldl (fun v b => 2 * v + b.toNat) 0

/-- The codebook section of R120 in plain numbers: the count in four bytes, then for each valid symbol, ascending, the symbol, its length in
two bytes and its digits. -/
def State.wireForm (s : State) : List Byte :=
  [BitVec.ofNat 8 (s.cbCount.toNat / 2 ^ 24), BitVec.ofNat 8 (s.cbCount.toNat / 2 ^ 16), BitVec.ofNat 8 (s.cbCount.toNat / 2 ^ 8),
    BitVec.ofNat 8 s.cbCount.toNat] ++
  s.validSymbols.flatMap fun b =>
    [b, BitVec.ofNat 8 ((s.lutAt b).len.toNat / 256), BitVec.ofNat 8 (s.lutAt b).len.toNat] ++
      (s.lutAt b).code.map fun d => if d then 0x31#8 else 0x30#8

/-- The path `c` leads from node `i` down to node `j`: each bit leaves an internal node, 0 to its left child and 1 to its right (00_scope.md
R10, 43_tree_builder.md R115). -/
def State.leadsTo (s : State) : Nat → Bits → Nat → Prop
  | i, [], j => i = j
  | i, false :: c, j => (s.nodeAt i).leaf = false ∧ s.leadsTo (s.nodeAt i).left.toNat c j
  | i, true :: c, j => (s.nodeAt i).leaf = false ∧ s.leadsTo (s.nodeAt i).right.toNat c j

/-- Node `k` of the arena is internal and has node `i` as a child. -/
def State.isParent (s : State) (k i : Nat) : Prop :=
  k < s.nodeCount.toNat ∧ (s.nodeAt k).leaf = false ∧ ((s.nodeAt k).left.toNat = i ∨ (s.nodeAt k).right.toNat = i)

/-- The symbols with HIST > 0, ascending (42_histogram.md R111). -/
def State.countedSymbols (s : State) : List Byte :=
  ((List.range 256).map (BitVec.ofNat 8)).filter fun b => s.histAt b ≠ 0

end Sys2Proof.Machine
end

