-- ==== Sys2Proof/Certificates/Slice0/Obligations.lean ====
section
/-! DEFINITION. The statements about the machine, each named for what it says. -/

open Sys2Proof Sys2Proof.Machine

/-! ## Encoding -/

/-- R70-R77: an instruction is what its own word decodes to, and so as the 35-bit number PORT x 2^32 + VALUE. That a CTRL word has one
instruction, with CLEAR_ERR beside ABORT in it, is the model's reading of R93 (log 9). -/
def Obligations.DecodeOfEncodeIsTheInstruction : Prop :=
  (∀ i : Instr, decode (encode i) = .ok i) ∧
  (∀ (i : Instr) (e : Entry), encode i = .entry e → decodeBits e.toBits = .ok i) ∧
  (∀ e : Entry, e.toBits.toNat = e.port.number.toNat * 2 ^ 32 + e.value.toNat)

/-- R70-R75, R80: an entry that decodes is the word of the instruction it decodes to, so no two entries mean the same. -/
def Obligations.EncodeOfDecodeIsTheEntry : Prop :=
  ∀ (e : Entry) (i : Instr), decodeEntry e = .ok i → encode i = .entry e

/-- R77 and 95_test_vectors.md section 3: words written out from the spec decode to their instructions. How the table's number is laid out
is the model's choice (log 10). -/
def Obligations.WordsOfTheSpecDecode : Prop :=
  decodeTableWord 40 0x000000000 = some .nop ∧
  decodeTableWord 40 0x011000000 = some .histBegin ∧
  decodeTableWord 40 0x0130000FF = some (.freqSet 0xFF) ∧
  decodeTableWord 40 0x020000000 = some .build ∧
  decodeTableWord 40 0x021000104 = some (.nodeGet 0x104) ∧
  decodeTableWord 40 0x031000080 = some (.cbGet 0x80) ∧
  decodeTableWord 40 0x041000000 = some .encFlush ∧
  decodeTableWord 40 0x050000000 = some .decBegin ∧
  decodeTableWord 40 0x1000000DC = some (.data 0xDC) ∧
  decodeTableWord 40 0x300001234 = some (.arg1 0x1234) ∧
  decodeTableWord 32 1 = some .ctrlSoftReset ∧
  decodeTableWord 32 2 = some (.ctrlAbort false) ∧
  decodeTableWord 32 4 = some .ctrlClearErr

/-- R79, R80: an entry whose OPCODE is in a range of R80 (a) raises ILLEGAL_OPCODE; one with a must-be-zero bit of its form raises
RESERVED_FIELD, the opcode check first. -/
def Obligations.RejectedEntriesRaiseUsageErrors : Prop :=
  ∀ (s : State) (v : Word),
    (((0x01 ≤ v.toNat / 2 ^ 24 ∧ v.toNat / 2 ^ 24 ≤ 0x0F) ∨ (0x15 ≤ v.toNat / 2 ^ 24 ∧ v.toNat / 2 ^ 24 ≤ 0x1F) ∨
      (0x22 ≤ v.toNat / 2 ^ 24 ∧ v.toNat / 2 ^ 24 ≤ 0x2F) ∨ (0x34 ≤ v.toNat / 2 ^ 24 ∧ v.toNat / 2 ^ 24 ≤ 0x3F) ∨
      (0x42 ≤ v.toNat / 2 ^ 24 ∧ v.toNat / 2 ^ 24 ≤ 0x4F) ∨ (0x51 ≤ v.toNat / 2 ^ 24 ∧ v.toNat / 2 ^ 24 ≤ 0xFF)) →
      dispatchEntry { port := .cmd, value := v } s = .next (errorState s 0x501 v (s.seq - 1))) ∧
    (v.toNat / 2 ^ 24 ∈ [0x00, 0x10, 0x11, 0x12, 0x20, 0x30, 0x32, 0x33, 0x40, 0x41, 0x50] → v.toNat % 2 ^ 24 ≠ 0 →
      dispatchEntry { port := .cmd, value := v } s = .next (errorState s 0x502 v (s.seq - 1))) ∧
    (v.toNat / 2 ^ 24 ∈ [0x13, 0x14, 0x31] → 2 ^ 8 ≤ v.toNat % 2 ^ 24 →
      dispatchEntry { port := .cmd, value := v } s = .next (errorState s 0x502 v (s.seq - 1))) ∧
    (v.toNat / 2 ^ 24 = 0x21 → 2 ^ 9 ≤ v.toNat % 2 ^ 24 →
      dispatchEntry { port := .cmd, value := v } s = .next (errorState s 0x502 v (s.seq - 1))) ∧
    (2 ^ 8 ≤ v.toNat → dispatchEntry { port := .data, value := v } s = .next (errorState s 0x502 v (s.seq - 1)))

/-! ## Steps -/

/-- R84, R86, R79, R154: when the block's move is next, PEND is empty, MODE is not ERROR and the head of Q decodes to `i`, the step is
`exec i` on the state with that entry taken and counted, then the completion rule; when the head does not decode, the step raises with its
VALUE and its own sequence number, SEQ counted. Whose move is next is what the model's own `turns` says (log 1). -/
def Obligations.StepRunsTheDecodedEntry : Prop :=
  ∀ (s : State) (e : Entry) (rest : List Entry),
    s.blockIsNext → s.mode ≠ .error → s.pend = [] → s.q = e :: rest →
      (∀ i : Instr, decodeEntry e = .ok i →
        step s = onNext State.complete (exec i { s with turns := s.turns.tail, q := rest, seq := s.seq + 1 })) ∧
      (∀ r : Reject, decodeEntry e = .error r →
        step s = .next { errorState s (if r = .reservedField then 0x502 else 0x501) e.value s.seq with
          turns := s.turns.tail, seq := s.seq + 1 })

/-- R76, R93: when the host's move is next and its access is a write of `w` to CTRL, the step is the action of `w`, at once and whatever is
queued; a word with none of the three bits does nothing; CTRL reads 0. Whose move is next, and the list of accesses, are the model's own
data (log 1, log 2). -/
def Obligations.StepRunsTheCtrlWrite : Prop :=
  (∀ s : State, (regAt 0x010).readValue s = 0) ∧
  ∀ (s : State) (w : Word) (rest : List Access),
    s.hostIsNext → s.accesses = { kind := .write w, offset := 0x010, width := 32 } :: rest →
      (w.getLsbD 0 = true →
        step s = exec .ctrlSoftReset { s with turns := s.turns.tail, accesses := rest }) ∧
      (w.getLsbD 0 = false → w.getLsbD 1 = true →
        step s = exec (.ctrlAbort (w.getLsbD 2)) { s with turns := s.turns.tail, accesses := rest }) ∧
      (w.getLsbD 0 = false → w.getLsbD 1 = false → w.getLsbD 2 = true →
        step s = exec .ctrlClearErr { s with turns := s.turns.tail, accesses := rest }) ∧
      (w.getLsbD 0 = false → w.getLsbD 1 = false → w.getLsbD 2 = false →
        step s = .next { s with turns := s.turns.tail, accesses := rest })

/-- R85, R86, R62, R88, R174: the drain step moves exactly the head of PEND to the end of OUT when there is room, and sets DONE_IP if that
leaves the block quiescent; with PEND waiting for a full OUT, in ERROR with no output waiting, or quiescent, the block does nothing. -/
def Obligations.DrainStepMovesOneByteOrStalls : Prop :=
  (∀ (s : State) (b : Byte) (rest : List Byte),
    s.pend = b :: rest → s.out.length < Config.outDepth →
      blockMove s = .next { s with
        pend := rest, out := s.out ++ [b],
        doneIP := s.doneIP || (s.q.isEmpty && rest.isEmpty && s.mode != .error) }) ∧
  (∀ s : State,
    ((s.pend ≠ [] ∧ Config.outDepth ≤ s.out.length) ∨ (s.pend = [] ∧ s.mode = .error) ∨ s.quiescent) →
      blockMove s = .next s)

/-- R86: an internal step sets DONE_IP exactly when it leaves Q and PEND empty outside ERROR, and never clears it. -/
def Obligations.InternalStepsSetDoneOnQuiescence : Prop :=
  ∀ s t : State, s.canMove = true → blockMove s = .next t →
    (t.doneIP = true ↔ (s.doneIP = true ∨ (t.q = [] ∧ t.pend = [] ∧ t.mode ≠ .error)))

/-- R87, R26: SEQ counts each dequeued entry once, an entry that raises included, and no drain step and no host access but a soft reset
changes it. -/
def Obligations.SeqCountsExactlyTheDequeuedEntries : Prop :=
  (∀ s t : State, s.canExecute = true → blockMove s = .next t → t.seq = s.seq + 1) ∧
  (∀ s t : State, s.canExecute = false → blockMove s = .next t → t.seq = s.seq) ∧
  (∀ s t : State, hostMove s = .next t →
    t.seq = s.seq ∨ ∃ w rest, s.accesses = { kind := .write w, offset := 0x010, width := 32 } :: rest ∧ w.getLsbD 0 = true)

/-- R57, R153-R156: whatever is queued and whatever the host's defined accesses are, no run stops. The lists of accesses and turns are the
model's own data (log 1, log 2). -/
def Obligations.WellBehavedHostRunsNeverStop : Prop :=
  ∀ s : State, s.hostWellBehaved → SafeRun s

/-- R88: a block left alone comes to rest, quiescent, stalled on a full OUT, or in ERROR. That the block moves while it can when `turns` is
empty is the model's choice (log 1); it is fair, as R88 asks. -/
def Obligations.BlockLeftAloneComesToRest : Prop :=
  ∀ s : State, s.turns = [] → s.accesses = [] →
    ∃ k t, core.run k s = .next t ∧
      (t.quiescent ∨ (t.pend ≠ [] ∧ Config.outDepth ≤ t.out.length) ∨ t.mode = .error)

/-- R172, R180: a host write to a queue port that finds room and an internal step, of either kind, can be taken in either order: the states
differ at most in DONE_IP. -/
def Obligations.QueueWriteCommutesWithInternalStep : Prop :=
  ∀ (s : State) (p : Port) (v : Word),
    s.canMove = true → s.q.length < Config.qDepth →
      ∃ t u, blockMove s = .next t ∧ blockMove (s.portWrite p v) = .next u ∧
        { t.portWrite p v with doneIP := u.doneIP } = u

/-! ## Errors -/

/-- R152, R153: ERR's value for every cause. -/
def Obligations.CauseTableValues : Prop :=
  [Cause.illegalOpcode, .reservedField, .illegalInMode, .dataInIdle, .freqOverflow, .lenOverflow, .queueOverflow, .cancelled,
    .missingSymbol, .cbCountRange, .cbDupSymbol, .cbLenRange, .cbBadDigit, .cbDupCode, .cbEmpty, .badPadding,
    .payloadExhausted, .unmatchable].map (fun c => c.errWord.toNat) =
  [0x501, 0x502, 0x503, 0x504, 0x505, 0x506, 0x310, 0x311, 0x420, 0x130, 0x131, 0x132, 0x133, 0x134, 0x135, 0x140, 0x141, 0x142]

/-- R78: a command in a mode where it is not legal raises ILLEGAL_IN_MODE with its VALUE and its sequence number, and DATA in IDLE raises
DATA_IN_IDLE; nothing else of the state survives than R154 keeps. That a command would raise in ERROR too, where no run executes an entry,
is the model's choice (log 7). -/
def Obligations.IllegalInModeRaises : Prop :=
  (∀ (i : Instr) (s : State), i.isCommand = true → i ≠ .nop → ¬ i.legalIn s.mode →
    exec i s = .next (errorState s 0x503 i.value (s.seq - 1))) ∧
  (∀ (b : Byte) (s : State), s.mode = .idle →
    exec (.data b) s = .next (errorState s 0x504 (b.setWidth 32) (s.seq - 1)))

/-- R156: ERROR is left only by CLEAR_ERR or a reset, and ERR keeps the first error: with Q and PEND empty, as R154 leaves them, a step
from ERROR stays in ERROR with the error registers and SEQ as they were, unless the reset signal or a CTRL write with bit 0 or bit 2 is
what moves. -/
def Obligations.ErrorIsSticky : Prop :=
  ∀ s t : State, s.mode = .error → s.q = [] → s.pend = [] → step s = .next t →
    (t.mode = .error ∧ t.err = s.err ∧ t.errInfo = s.errInfo ∧ t.errSeq = s.errSeq ∧ t.seq = s.seq ∧ t.q = [] ∧ t.pend = []) ∨
    s.nextTurn = .hardReset ∨
    (s.nextTurn = .host ∧ ∃ w rest, s.accesses = { kind := .write w, offset := 0x010, width := 32 } :: rest ∧
      (w.getLsbD 0 = true ∨ w.getLsbD 2 = true))

/-- R154, R156: in every state that the invariant holds of, a step keeps it: the error registers are 0 outside ERROR, and in ERROR all
transient state is at reset. -/
def Obligations.ErrorModeStaysClean : Prop :=
  ∀ s t : State, ErrorModeClean s → step s = .next t → ErrorModeClean t

/-! ## NOP, operand entries and CTRL actions -/

/-- R91, R92: NOP has no effect of its own, and an ARG entry writes its operand register and nothing else, in every mode. That they do the
same in ERROR, where no run executes an entry, is the model's choice (log 7). -/
def Obligations.NopAndOperandEntries : Prop :=
  ∀ (s : State) (v : Word),
    exec .nop s = .next s ∧ exec (.arg0 v) s = .next { s with arg0 := v } ∧
    exec (.arg1 v) s = .next { s with arg1 := v } ∧ exec (.arg2 v) s = .next { s with arg2 := v } ∧
    encode .nop = .entry { port := .cmd, value := 0 } ∧ encode (.arg0 v) = .entry { port := .arg0, value := v } ∧
    encode (.arg1 v) = .entry { port := .arg1, value := v } ∧ encode (.arg2 v) = .entry { port := .arg2, value := v } ∧
    (∀ w : Word, w.toNat / 2 ^ 24 = 0 → w.toNat % 2 ^ 24 ≠ 0 →
      dispatchEntry { port := .cmd, value := w } s = .next (errorState s 0x502 w (s.seq - 1)))

/-- R93-R96, R167, R168: SOFT_RESET gives the reset state in every mode, the world outside the block as it was, and the step of the reset
signal, where it is what moves, gives the same; ABORT raises IO.CANCELLED(0) with ERR_SEQ = SEQ outside ERROR and does nothing in ERROR, and
with bit 2 of the same write set it then returns to IDLE; CLEAR_ERR returns from ERROR to IDLE with the error registers cleared and nothing
else changed, and does nothing outside ERROR. ABORT and CLEAR_ERR of one write are one instruction here (log 9); that the reset signal is one
step, named in `turns`, which keeps the model's own fields is the model's choice (log 14). -/
def Obligations.CtrlActions : Prop :=
  ∀ s : State,
    exec .ctrlSoftReset s = .next { State.reset with
      accesses := s.accesses, turns := s.turns, reads := s.reads, draws := s.draws } ∧
    (s.nextTurn = .hardReset → step s = .next { State.reset with
      accesses := s.accesses, turns := s.turns.tail, reads := s.reads, draws := s.draws }) ∧
    (s.mode ≠ .error → exec (.ctrlAbort false) s = .next (errorState s 0x311 0 s.seq)) ∧
    (s.mode = .error → exec (.ctrlAbort false) s = .next s) ∧
    (s.mode ≠ .error → exec (.ctrlAbort true) s = .next { errorState s 0 0 0 with mode := .idle }) ∧
    (s.mode = .error → exec (.ctrlAbort true) s = .next { s with mode := .idle, err := 0, errInfo := 0, errSeq := 0 }) ∧
    (s.mode = .error → exec .ctrlClearErr s = .next { s with mode := .idle, err := 0, errInfo := 0, errSeq := 0 }) ∧
    (s.mode ≠ .error → exec .ctrlClearErr s = .next s)

/-! ## The host interface -/

/-- R61, R28, R29: a write to a queue port is discarded in ERROR, raises QUEUE_OVERFLOW with the dropped value when Q is full, and else
appends the entry of that port. -/
def Obligations.QueuePortWrites : Prop :=
  ∀ (s : State) (v : Word) (o : Int) (p : Port),
    (o, p) ∈ [((0x040 : Int), Port.cmd), (0x044, .data), (0x048, .arg0), (0x04C, .arg1), (0x050, .arg2)] →
      (s.mode = .error → hostAccess { kind := .write v, offset := o, width := 32 } s = .next s) ∧
      (s.mode ≠ .error → s.q.length = Config.qDepth →
        hostAccess { kind := .write v, offset := o, width := 32 } s = .next (errorState s 0x310 v s.seq)) ∧
      (s.mode ≠ .error → s.q.length ≠ Config.qDepth →
        hostAccess { kind := .write v, offset := o, width := 32 } s = .next { s with q := s.q ++ [{ port := p, value := v }] })

/-- R41, I8: a read of a datapath register while Q or PEND is non-empty returns a free draw, a fresh one each time; while both are empty it
returns the exact value. -/
def Obligations.BusyDatapathReadsAreFreeDraws : Prop :=
  ∀ (s : State) (o : Nat),
    o ∈ [0x048, 0x04C, 0x050, 0x060, 0x064, 0x068, 0x06C, 0x070, 0x074, 0x078, 0x07C, 0x080, 0x084, 0x088, 0x090, 0x094, 0x098,
      0x0A0, 0x0A4, 0x0A8, 0x0AC, 0x0B0, 0x0B4, 0x0B8, 0x0BC] →
      (¬ s.quiescent →
        hostAccess { kind := .read, offset := (o : Int), width := 32 } s =
          .next { s with reads := s.reads ++ [{ offset := o, value := Config.freeDraw s.draws }], draws := s.draws + 1 }) ∧
      (s.quiescent →
        hostAccess { kind := .read, offset := (o : Int), width := 32 } s =
          .next { s with reads := s.reads ++ [{ offset := o, value := (regAt o).value s }] })

/-- R15, R17-R20, R24-R36, R166: what every register reads as after reset, the depths as the parameters; and the exact values of the
registers that hold state, field by field. -/
def Obligations.RegisterValues : Prop :=
  (∀ o : Nat, o % 4 = 0 → o < 256 →
    (regAt o).readValue State.reset =
      if o = 0x000 then 0x53514831 else if o = 0x004 then 0x00000101
      else if o = 0x008 then BitVec.ofNat 32 Config.qDepth else if o = 0x00C then BitVec.ofNat 32 Config.outDepth
      else if o = 0x014 then 0x00000040 else 0) ∧
  ∀ s : State,
    [0x020, 0x024, 0x028, 0x02C, 0x048, 0x04C, 0x050, 0x060, 0x064, 0x080, 0x084, 0x090, 0x094, 0x098].map
        (fun o => (regAt o).value s) =
      [s.err, s.errInfo, s.errSeq, s.seq, s.arg0, s.arg1, s.arg2, s.origCount, s.compCount, s.decEmitted, s.decConsumed,
        s.result0, s.result1, s.result2] ∧
    ((regAt 0x068).value s).toNat = s.padding.toNat ∧
    ((regAt 0x06C).value s).toNat = s.cnt.toNat * 2 ^ 8 + s.buf.toNat ∧
    ((regAt 0x070).value s).toNat = s.cbCount.toNat ∧ ((regAt 0x074).value s).toNat = s.cbMaxlen.toNat ∧
    ((regAt 0x078).value s).toNat = s.treeValid.toNat * 2 ^ 31 + s.treeIndex.toNat ∧
    ((regAt 0x07C).value s).toNat = s.nodeCount.toNat ∧
    (s.key.length ≤ 256 → ((regAt 0x088).value s).toNat = s.key.length) ∧
    (s.q.length < 2 ^ 32 → ((regAt 0x030).value s).toNat = s.q.length) ∧
    (s.out.length < 2 ^ 32 → ((regAt 0x034).value s).toNat = s.out.length) ∧
    (∀ k : Nat, k < 8 → ((regAt (0x0A0 + 4 * k)).value s).toNat = s.codew.toNat / 2 ^ (32 * k) % 2 ^ 32)

/-- R21, R40, R158: every field of STATUS, and its reset value. -/
def Obligations.StatusFields : Prop :=
  (regAt 0x014).readValue State.reset = 0x00000040 ∧
  ∀ s : State,
    ((regAt 0x014).readValue s).toNat =
      (match s.mode with
        | .idle => 0
        | .tabulate => 1
        | .encode => 2
        | .cbLoad => 3
        | .decode => 4
        | .error => 7) +
      (if s.q ≠ [] ∨ s.pend ≠ [] then 2 ^ 3 else 0) + (if s.mode = .error then 2 ^ 4 else 0) +
      (if s.q.length = Config.qDepth then 2 ^ 5 else 0) + (if s.q = [] then 2 ^ 6 else 0) +
      (if s.out ≠ [] then 2 ^ 7 else 0) + (if s.out.length = Config.outDepth then 2 ^ 8 else 0) +
      (if s.pend ≠ [] then 2 ^ 9 else 0) +
      (if (s.doneIP = true ∧ s.doneIE = true) ∨ (s.errIP = true ∧ s.errIE = true) then 2 ^ 10 else 0)

/-- R30, R59, R97: a read of OUT_DATA returns 0x100 with the head of OUT and removes it, or 0 and changes nothing, and a write is ignored; a
read at any other offset of the window changes nothing of the block. -/
def Obligations.OutDataReadsPopAndOtherReadsDoNot : Prop :=
  ∀ s : State,
    (∀ (b : Byte) (rest : List Byte), s.out = b :: rest →
      ∃ v : Word, v.toNat = 2 ^ 8 + b.toNat ∧
        hostAccess { kind := .read, offset := 0x054, width := 32 } s =
          .next { s with out := rest, reads := s.reads ++ [{ offset := 0x054, value := v }] }) ∧
    (s.out = [] →
      hostAccess { kind := .read, offset := 0x054, width := 32 } s =
        .next { s with reads := s.reads ++ [{ offset := 0x054, value := 0 }] }) ∧
    (∀ v : Word, hostAccess { kind := .write v, offset := 0x054, width := 32 } s = .next s) ∧
    (∀ o : Nat, o % 4 = 0 → o < 256 → o ≠ 0x054 →
      ∃ v n, hostAccess { kind := .read, offset := (o : Int), width := 32 } s =
        .next { s with reads := s.reads ++ [{ offset := o, value := v }], draws := n })

/-- R22, R23, R158: a write to IRQ_EN stores bits [1:0], a write to IRQ_STATUS clears the bits written as 1, and the IRQ line follows at
once. -/
def Obligations.InterruptRegisters : Prop :=
  ∀ (s : State) (v : Word),
    hostAccess { kind := .write v, offset := 0x018, width := 32 } s =
      .next { s with doneIE := v.getLsbD 0, errIE := v.getLsbD 1 } ∧
    hostAccess { kind := .write v, offset := 0x01C, width := 32 } s =
      .next { s with
        doneIP := (if v.getLsbD 0 then false else s.doneIP), errIP := (if v.getLsbD 1 then false else s.errIP) } ∧
    ((regAt 0x018).readValue s).toNat = s.errIE.toNat * 2 + s.doneIE.toNat ∧
    ((regAt 0x01C).readValue s).toNat = s.errIP.toNat * 2 + s.doneIP.toNat ∧
    (s.irq = true ↔ (s.doneIP = true ∧ s.doneIE = true) ∨ (s.errIP = true ∧ s.errIE = true))

/-- R16, R52, R57, R59, R63: a write to an offset of the window that is not CTRL, IRQ_EN, IRQ_STATUS or a queue port is ignored; a reserved
or write-only offset reads 0; an access outside the window, of another width, or misaligned is refused, each under its own name. A refusal
ends the run, as R57 asks of a model (log 5). -/
def Obligations.OtherWritesAreIgnoredAndOtherAccessesRefused : Prop :=
  (∀ (s : State) (v : Word) (o : Nat), o % 4 = 0 → o < 256 →
    o ∉ [0x010, 0x018, 0x01C, 0x040, 0x044, 0x048, 0x04C, 0x050] →
      hostAccess { kind := .write v, offset := (o : Int), width := 32 } s = .next s) ∧
  (∀ (s : State) (o : Nat), o % 4 = 0 →
    (o ∈ [0x010, 0x038, 0x03C, 0x040, 0x044, 0x058, 0x05C, 0x08C, 0x09C] ∨ (0x0C0 ≤ o ∧ o < 256)) →
      (regAt o).readValue s = 0) ∧
  (∀ (s : State) (a : Access),
    ((a.offset < 0 ∨ 256 ≤ a.offset) → hostAccess a s = .refused .outsideWindow) ∧
    (0 ≤ a.offset → a.offset < 256 → (a.width ≠ 32 ∨ a.offset % 4 ≠ 0) → hostAccess a s = .refused .busError))

/-! ## The frequency tabulator -/

/-- R105, R106, R108: HIST.CLEAR empties the histogram, HIST.BEGIN and HIST.END enter and leave TABULATE; each changes nothing else, and
raises as its rule says. -/
def Obligations.HistogramCommands : Prop :=
  ∀ s : State,
    (s.mode = .idle → ∃ t, exec .histClear s = .next t ∧ (∀ b, t.histAt b = 0) ∧ t = { s with hist := t.hist }) ∧
    (s.mode = .idle → exec .histBegin s = .next { s with mode := .tabulate }) ∧
    (s.mode = .tabulate → exec .histEnd s = .next { s with mode := .idle }) ∧
    CommandRaises .histClear 0x10 0 .idle s ∧ CommandRaises .histBegin 0x11 0 .idle s ∧ CommandRaises .histEnd 0x12 0 .tabulate s

/-- R109, R110: FREQ.SET s writes ARG1:ARG0 to HIST[s] and nothing else; FREQ.GET s puts HIST[s] in RESULT2:RESULT1 and 0 in RESULT0, and
changes nothing else. -/
def Obligations.FrequencyCommandsAccessOneBin : Prop :=
  ∀ (s : State) (b : Byte),
    CommandRaises (.freqSet b) 0x13 8 .idle s ∧ CommandRaises (.freqGet b) 0x14 8 .idle s ∧
    (s.mode = .idle → MemoriesCanonical s → ∃ t, exec (.freqSet b) s = .next t ∧ t = { s with hist := t.hist } ∧
      (t.histAt b).toNat = s.arg1.toNat * 2 ^ 32 + s.arg0.toNat ∧ ∀ c, c ≠ b → t.histAt c = s.histAt c) ∧
    (s.mode = .idle → ∃ t, exec (.freqGet b) s = .next t ∧
      t = { s with result0 := 0, result1 := t.result1, result2 := t.result2 } ∧
      t.result2.toNat * 2 ^ 32 + t.result1.toNat = (s.histAt b).toNat)

/-- R107: DATA in TABULATE adds 1 to the byte's bin and changes nothing else; a full bin raises FREQ_OVERFLOW. -/
def Obligations.TabulateCountsTheByte : Prop :=
  ∀ (s : State) (b : Byte), MemoriesCanonical s → s.mode = .tabulate →
    ((s.histAt b).toNat ≠ 2 ^ 64 - 1 → ∃ t, exec (.data b) s = .next t ∧ t = { s with hist := t.hist } ∧
      (t.histAt b).toNat = (s.histAt b).toNat + 1 ∧ ∀ c, c ≠ b → t.histAt c = s.histAt c) ∧
    ((s.histAt b).toNat = 2 ^ 64 - 1 →
      exec (.data b) s = .next (errorState s 0x505 (b.setWidth 32) (s.seq - 1)))

/-- R111: a tabulation pass adds to every bin the number of times its symbol occurs in the stream. -/
def Obligations.TabulationCountsOccurrences : Prop :=
  ∀ (s : State) (xs : List Byte), MemoriesCanonical s → s.mode = .idle →
    (∀ b : Byte, (s.histAt b).toNat + xs.count b < 2 ^ 64) →
      ∃ t, runInstrs ([.histBegin] ++ xs.map .data ++ [.histEnd]) s = .next t ∧ t = { s with hist := t.hist } ∧
        ∀ b : Byte, (t.histAt b).toNat = (s.histAt b).toNat + xs.count b

/-! ## The tree builder -/

/-- R112, R114: BUILD changes the arena, the LUT and their counters only; with no symbol it clears them; with one symbol the tree is one leaf
and the code is "0". -/
def Obligations.BuildOfNoneOrOneSymbol : Prop :=
  ∀ s : State, CommandRaises .build 0x20 0 .idle s ∧
    (s.mode = .idle → ∃ t, exec .build s = .next t ∧
      t = { s with
        node := t.node, nodeCount := t.nodeCount, treeValid := t.treeValid, treeIndex := t.treeIndex, lut := t.lut,
        cbCount := t.cbCount, cbMaxlen := t.cbMaxlen } ∧
      (s.countedSymbols = [] →
        t.node = [] ∧ t.lut = [] ∧ t.nodeCount = 0 ∧ t.treeValid = false ∧ t.treeIndex = 0 ∧ t.cbCount = 0 ∧ t.cbMaxlen = 0) ∧
      (∀ b : Byte, s.countedSymbols = [b] →
        t.nodeCount = 1 ∧ t.treeValid = true ∧ t.treeIndex = 0 ∧ t.cbCount = 1 ∧ t.cbMaxlen = 1 ∧
        t.nodeAt 0 = { leaf := true, sym := b, freq := (s.histAt b).setWidth 72, left := 0, right := 0 } ∧
        t.lutAt b = { valid := true, len := 1, code := [false] }))

/-- R118: BUILD is a function of HIST alone: from two idle states with the same bins it gives the same arena, LUT and counters. -/
def Obligations.BuildDependsOnHistogramAlone : Prop :=
  ∀ s u : State, s.mode = .idle → u.mode = .idle → (∀ b : Byte, s.histAt b = u.histAt b) →
    ∃ t v, exec .build s = .next t ∧ exec .build u = .next v ∧
      t.node = v.node ∧ t.nodeCount = v.nodeCount ∧ t.treeValid = v.treeValid ∧ t.treeIndex = v.treeIndex ∧
      t.lut = v.lut ∧ t.cbCount = v.cbCount ∧ t.cbMaxlen = v.cbMaxlen

/-- R112, R115: after BUILD over n ≥ 1 symbols the LUT has a code for exactly those symbols, CB_COUNT is n, NODE_COUNT is 2n - 1, at most 511,
and the root is the last node. The first n nodes are the leaves, one for each symbol; an internal node has two children, both before it; the
root has no parent and every other node has exactly one. For n ≥ 2 the code of a leaf's symbol is the path, and the only path, from the root
to the leaf, left giving 0 and right giving 1. -/
def Obligations.BuildCodesExactlyTheCountedSymbols : Prop :=
  ∀ (s t : State) (n : Nat), s.mode = .idle → n = s.countedSymbols.length → n ≠ 0 → exec .build s = .next t →
    (∀ b : Byte, (t.lutAt b).valid = true ↔ s.histAt b ≠ 0) ∧
    t.cbCount.toNat = n ∧ t.nodeCount.toNat + 1 = 2 * n ∧ t.nodeCount.toNat ≤ 511 ∧ t.treeValid = true ∧
    t.treeIndex.toNat + 1 = t.nodeCount.toNat ∧
    (∀ i, i < t.nodeCount.toNat → ((t.nodeAt i).leaf = true ↔ i < n)) ∧
    (∀ i, i < t.nodeCount.toNat → (t.nodeAt i).leaf = false →
      (t.nodeAt i).left.toNat < i ∧ (t.nodeAt i).right.toNat < i ∧ (t.nodeAt i).left ≠ (t.nodeAt i).right) ∧
    (∀ k, ¬ t.isParent k t.treeIndex.toNat) ∧
    (∀ i, i < t.nodeCount.toNat → i ≠ t.treeIndex.toNat → ∃ k, t.isParent k i ∧ ∀ m, t.isParent m i → m = k) ∧
    (∀ b : Byte, (t.lutAt b).valid = true → ∃ j, j < n ∧ (t.nodeAt j).sym = b ∧ ∀ m, m < n → (t.nodeAt m).sym = b → m = j) ∧
    (2 ≤ n → ∀ j, j < n → ∀ c : Bits, t.leadsTo t.treeIndex.toNat c j ↔ c = (t.lutAt (t.nodeAt j).sym).code)

/-- R116: after BUILD the codebook is prefix-free. -/
def Obligations.BuiltCodebookIsPrefixFree : Prop :=
  ∀ s t : State, s.mode = .idle → exec .build s = .next t → CodesPrefixFree t

/-- R117: after BUILD every valid code has between 1 and max(1, n - 1) bits, at most 255, and LEN is its length; CB_MAXLEN is the largest LEN,
or 0 when n = 0; for n ≥ 2 the codes are complete, the sum of 2^(-LEN) being 1. -/
def Obligations.BuiltCodeLengths : Prop :=
  ∀ (s t : State) (n : Nat), s.mode = .idle → n = s.countedSymbols.length → exec .build s = .next t →
    (∀ b : Byte, (t.lutAt b).valid = true →
      1 ≤ (t.lutAt b).len.toNat ∧ (t.lutAt b).len.toNat ≤ max 1 (n - 1) ∧ max 1 (n - 1) ≤ 255 ∧
      (t.lutAt b).code.length = (t.lutAt b).len.toNat ∧ (t.lutAt b).len.toNat ≤ t.cbMaxlen.toNat) ∧
    (n = 0 → t.cbMaxlen = 0) ∧
    (n ≠ 0 → ∃ b : Byte, (t.lutAt b).valid = true ∧ (t.lutAt b).len = t.cbMaxlen) ∧
    (2 ≤ n → (s.countedSymbols.map fun b => 2 ^ (256 - (t.lutAt b).len.toNat)).sum = 2 ^ 256)

/-- R113, R43: after BUILD every internal node's frequency is the exact sum of its children's, a leaf's is its bin, and the root's is the sum
of all bins: no sum wraps at 72 bits. -/
def Obligations.BuiltFrequenciesAreExactSums : Prop :=
  ∀ s t : State, s.mode = .idle → s.countedSymbols ≠ [] → exec .build s = .next t →
    (∀ i, i < t.nodeCount.toNat → (t.nodeAt i).leaf = true → (t.nodeAt i).freq.toNat = (s.histAt (t.nodeAt i).sym).toNat) ∧
    (∀ i, i < t.nodeCount.toNat → (t.nodeAt i).leaf = false →
      (t.nodeAt i).freq.toNat =
        (t.nodeAt (t.nodeAt i).left.toNat).freq.toNat + (t.nodeAt (t.nodeAt i).right.toNat).freq.toNat) ∧
    (t.nodeAt t.treeIndex.toNat).freq.toNat = (s.countedSymbols.map fun b => (s.histAt b).toNat).sum

/-- R112, R8: after BUILD over n ≥ 1 symbols the leaves are in ascending symbol order, and each internal node k joins, of the nodes below k that
no earlier internal node has joined, the least by (frequency, index) on its left and the next least on its right. -/
def Obligations.BuildJoinsTheTwoLeast : Prop :=
  ∀ (s t : State) (n : Nat), s.mode = .idle → n = s.countedSymbols.length → n ≠ 0 → exec .build s = .next t →
    (∀ i, i < n → s.countedSymbols[i]? = some (t.nodeAt i).sym) ∧
    ∀ k, n ≤ k → k < t.nodeCount.toNat →
      ∀ (free : Nat → Prop) (before : Nat → Nat → Prop),
        (∀ i, free i ↔ i < k ∧ ∀ j, n ≤ j → j < k → (t.nodeAt j).left.toNat ≠ i ∧ (t.nodeAt j).right.toNat ≠ i) →
        (∀ i j, before i j ↔ (t.nodeAt i).freq.toNat < (t.nodeAt j).freq.toNat ∨
          ((t.nodeAt i).freq.toNat = (t.nodeAt j).freq.toNat ∧ i < j)) →
          free (t.nodeAt k).left.toNat ∧ free (t.nodeAt k).right.toNat ∧
          before (t.nodeAt k).left.toNat (t.nodeAt k).right.toNat ∧
          ∀ i, free i → i ≠ (t.nodeAt k).left.toNat → i ≠ (t.nodeAt k).right.toNat → before (t.nodeAt k).right.toNat i

/-- R119: NODE.GET i puts the node's fields where R119 places them, or zeros for an index at or above NODE_COUNT, and changes nothing
else. -/
def Obligations.NodeGetReadsOneNode : Prop :=
  ∀ (s : State) (i : BitVec 9), CommandRaises (.nodeGet i) 0x21 9 .idle s ∧
    (s.mode = .idle → ∃ t, exec (.nodeGet i) s = .next t ∧
      t = { s with result0 := t.result0, result1 := t.result1, result2 := t.result2 } ∧
      (i.toNat < s.nodeCount.toNat →
        t.result0.toNat = 2 ^ 31 + (s.nodeAt i.toNat).leaf.toNat * 2 ^ 30 + (s.nodeAt i.toNat).freq.toNat / 2 ^ 64 * 2 ^ 22 +
          (if (s.nodeAt i.toNat).leaf = true then (s.nodeAt i.toNat).sym.toNat
           else (s.nodeAt i.toNat).right.toNat * 2 ^ 9 + (s.nodeAt i.toNat).left.toNat) ∧
        t.result1.toNat = (s.nodeAt i.toNat).freq.toNat % 2 ^ 32 ∧
        t.result2.toNat = (s.nodeAt i.toNat).freq.toNat / 2 ^ 32 % 2 ^ 32) ∧
      (s.nodeCount.toNat ≤ i.toNat → t.result0 = 0 ∧ t.result1 = 0 ∧ t.result2 = 0))

/-! ## The codebook -/

/-- R122, R125: CB.CLEAR empties the LUT and the tree; CB.LOAD does that, sets the parser to its start and enters CB_LOAD; HIST and everything
else is unchanged. -/
def Obligations.CodebookClearAndLoadStart : Prop :=
  ∀ s : State, CommandRaises .cbClear 0x30 0 .idle s ∧ CommandRaises .cbLoad 0x33 0 .idle s ∧
    (s.mode = .idle →
      exec .cbClear s = .next { s with
        lut := [], cbCount := 0, cbMaxlen := 0, node := [], nodeCount := 0, treeValid := false, treeIndex := 0 } ∧
      exec .cbLoad s = .next { s with
        lut := [], cbCount := 0, cbMaxlen := 0, node := [], nodeCount := 0, treeValid := false, treeIndex := 0,
        phase := .count, acc := 0, idx := 0, cntTotal := 0, doneCount := 0, csym := 0, clen := 0, ccode := [],
        mode := .cbLoad })

/-- R123: CB.GET s gives VALID, LEN and the code's value, its first bit the most significant, low word first; zeros for an absent symbol. -/
def Obligations.CbGetReadsOneCode : Prop :=
  ∀ (s : State) (b : Byte), (s.lutAt b).sound → CommandRaises (.cbGet b) 0x31 8 .idle s ∧
    (s.mode = .idle → ∃ t, exec (.cbGet b) s = .next t ∧
      t = { s with result0 := t.result0, result1 := 0, result2 := 0, codew := t.codew } ∧
      ((s.lutAt b).valid = true →
        t.result0.toNat = 2 ^ 31 + (s.lutAt b).len.toNat ∧ t.codew.toNat = bitsNat (s.lutAt b).code) ∧
      ((s.lutAt b).valid = false → t.result0 = 0 ∧ t.codew = 0))

/-- R124, R120, R121: CB.EMIT appends the codebook section to PEND and changes nothing else. -/
def Obligations.CbEmitPushesTheWireForm : Prop :=
  ∀ s : State, LutSound s → CommandRaises .cbEmit 0x32 0 .idle s ∧
    (s.mode = .idle → exec .cbEmit s = .next { s with pend := s.pend ++ s.wireForm })

/-- R126: a byte of the count and a byte of a length, big-endian, with their range checks. -/
def Obligations.LoadedCountAndLength : Prop :=
  ∀ (s : State) (b : Byte), s.mode = .cbLoad →
    (s.phase = .count → s.idx.toNat < 3 →
      ∃ t, exec (.data b) s = .next t ∧ t = { s with acc := t.acc, idx := t.idx } ∧
        t.acc.toNat = (s.acc.toNat * 2 ^ 8 + b.toNat) % 2 ^ 32 ∧ t.idx.toNat = s.idx.toNat + 1) ∧
    (s.phase = .count → s.idx = 3 → 256 < (s.acc.toNat * 2 ^ 8 + b.toNat) % 2 ^ 32 →
      exec (.data b) s = .next (errorState s 0x130 (b.setWidth 32) (s.seq - 1))) ∧
    (s.phase = .count → s.idx = 3 → (s.acc.toNat * 2 ^ 8 + b.toNat) % 2 ^ 32 = 0 →
      exec (.data b) s = .next { s with
        mode := .idle, phase := .count, acc := 0, idx := 0, cntTotal := 0, doneCount := 0, csym := 0, clen := 0, ccode := [] }) ∧
    (s.phase = .count → s.idx = 3 → 0 < (s.acc.toNat * 2 ^ 8 + b.toNat) % 2 ^ 32 →
      (s.acc.toNat * 2 ^ 8 + b.toNat) % 2 ^ 32 ≤ 256 →
        exec (.data b) s = .next { s with
          cntTotal := BitVec.ofNat 32 (s.acc.toNat * 2 ^ 8 + b.toNat), acc := 0, idx := 0, phase := .sym }) ∧
    (s.phase = .len → s.idx = 0 →
      ∃ t, exec (.data b) s = .next t ∧ t = { s with acc := t.acc, idx := 1 } ∧
        t.acc.toNat = (s.acc.toNat * 2 ^ 8 + b.toNat) % 2 ^ 32) ∧
    (s.phase = .len → s.idx = 1 →
      ((s.acc.toNat * 2 ^ 8 + b.toNat) % 2 ^ 16 = 0 ∨ 256 < (s.acc.toNat * 2 ^ 8 + b.toNat) % 2 ^ 16) →
        exec (.data b) s = .next (errorState s 0x132 (b.setWidth 32) (s.seq - 1))) ∧
    (s.phase = .len → s.idx = 1 → 0 < (s.acc.toNat * 2 ^ 8 + b.toNat) % 2 ^ 16 →
      (s.acc.toNat * 2 ^ 8 + b.toNat) % 2 ^ 16 ≤ 256 →
        exec (.data b) s = .next { s with
          clen := BitVec.ofNat 9 ((s.acc.toNat * 2 ^ 8 + b.toNat) % 2 ^ 16), ccode := [], acc := 0, idx := 0, phase := .digits })

/-- R126: the symbol byte and the digits of an entry: a symbol that has an entry, a byte that is no digit and a code that is in the LUT raise;
the last digit commits the entry, and the CNT_TOTAL-th entry ends the load. -/
def Obligations.LoadedSymbolAndDigits : Prop :=
  ∀ (s : State) (b : Byte), s.mode = .cbLoad →
    (s.phase = .sym → (s.lutAt b).valid = true →
      exec (.data b) s = .next (errorState s 0x131 (b.setWidth 32) (s.seq - 1))) ∧
    (s.phase = .sym → (s.lutAt b).valid = false → exec (.data b) s = .next { s with csym := b, phase := .len }) ∧
    (s.phase = .digits → b ≠ 0x30 → b ≠ 0x31 →
      exec (.data b) s = .next (errorState s 0x133 (b.setWidth 32) (s.seq - 1))) ∧
    (s.phase = .digits → (b = 0x30 ∨ b = 0x31) → s.ccode.length + 1 ≠ s.clen.toNat →
      exec (.data b) s = .next { s with ccode := s.ccode ++ [decide (b = 0x31)] }) ∧
    (s.phase = .digits → (b = 0x30 ∨ b = 0x31) → s.ccode.length + 1 = s.clen.toNat → MemoriesCanonical s →
      (∃ c, (s.lutAt c).valid = true ∧ (s.lutAt c).len = s.clen ∧ (s.lutAt c).code = s.ccode ++ [decide (b = 0x31)]) →
        exec (.data b) s = .next (errorState s 0x134 (b.setWidth 32) (s.seq - 1))) ∧
    (s.phase = .digits → (b = 0x30 ∨ b = 0x31) → s.ccode.length + 1 = s.clen.toNat → MemoriesCanonical s →
      (¬ ∃ c, (s.lutAt c).valid = true ∧ (s.lutAt c).len = s.clen ∧ (s.lutAt c).code = s.ccode ++ [decide (b = 0x31)]) →
        ∃ t, exec (.data b) s = .next t ∧
          t.lutAt s.csym = { valid := true, len := s.clen, code := s.ccode ++ [decide (b = 0x31)] } ∧
          (∀ c, c ≠ s.csym → t.lutAt c = s.lutAt c) ∧ t.cbCount = s.cbCount + 1 ∧
          t.cbMaxlen.toNat = max s.cbMaxlen.toNat s.clen.toNat ∧
          ((s.doneCount + 1).toNat = s.cntTotal.toNat →
            t = { s with
              mode := .idle, phase := .count, acc := 0, idx := 0, cntTotal := 0, doneCount := 0, csym := 0, clen := 0,
              ccode := [], lut := t.lut, cbCount := t.cbCount, cbMaxlen := t.cbMaxlen }) ∧
          ((s.doneCount + 1).toNat ≠ s.cntTotal.toNat →
            t = { s with
              phase := .sym, ccode := [], doneCount := s.doneCount + 1, lut := t.lut, cbCount := t.cbCount,
              cbMaxlen := t.cbMaxlen }))

/-- R127: a codebook sent out by CB.EMIT and sent back after CB.LOAD, to any idle block, gives the same LUT, CB_COUNT and CB_MAXLEN, ends in
IDLE, and leaves no tree. -/
def Obligations.EmitThenLoadGivesTheSameCodebook : Prop :=
  ∀ s u : State, MemoriesCanonical s → LutSound s → CodebookCounted s → CodesDistinct s → u.mode = .idle →
    ∃ t, runInstrs (.cbLoad :: s.wireForm.map .data) u = .next t ∧
      t.mode = .idle ∧ t.lut = s.lut ∧ t.cbCount = s.cbCount ∧ t.cbMaxlen = s.cbMaxlen ∧ t.treeValid = false ∧ t.node = []

/-! ## The bit writer and the encoder -/

/-- R129, R131, R100, R101: ENC.BEGIN clears the bit writer and the counters and enters ENCODE; ENC.FLUSH pushes the partial byte with zero
padding below it, records the padding and returns to IDLE. -/
def Obligations.EncoderBeginAndFlush : Prop :=
  ∀ s : State, CommandRaises .encBegin 0x40 0 .idle s ∧ CommandRaises .encFlush 0x41 0 .encode s ∧
    (s.mode = .idle →
      exec .encBegin s = .next { s with buf := 0, cnt := 0, origCount := 0, compCount := 0, padding := 0, mode := .encode }) ∧
    (s.mode = .encode → s.cnt = 0 →
      exec .encFlush s = .next { s with buf := 0, cnt := 0, padding := 0, mode := .idle }) ∧
    (s.mode = .encode → s.cnt ≠ 0 →
      ∃ b : Byte, exec .encFlush s = .next { s with
          pend := s.pend ++ [b], compCount := s.compCount + 1, buf := 0, cnt := 0,
          padding := BitVec.ofNat 3 (8 - s.cnt.toNat), mode := .idle } ∧
        lowBits b 8 = lowBits s.buf s.cnt.toNat ++ List.replicate (8 - s.cnt.toNat) false)

/-- R130, R98: DATA in ENCODE appends the byte's code to the bits written, pushing a byte for each eight, counts the byte, and changes nothing
else; a missing code and a length overflow raise, in that order. -/
def Obligations.EncodeAppendsTheCode : Prop :=
  ∀ (s : State) (b : Byte), s.mode = .encode → (s.lutAt b).sound →
    ((s.lutAt b).valid = false → exec (.data b) s = .next (errorState s 0x420 (b.setWidth 32) (s.seq - 1))) ∧
    ((s.lutAt b).valid = true →
      (s.origCount.toNat = 2 ^ 32 - 1 ∨
        2 ^ 32 - 1 < s.compCount.toNat + (s.cnt.toNat + (s.lutAt b).len.toNat + 7) / 8) →
      exec (.data b) s = .next (errorState s 0x506 (b.setWidth 32) (s.seq - 1))) ∧
    ((s.lutAt b).valid = true → s.origCount.toNat ≠ 2 ^ 32 - 1 →
      s.compCount.toNat + (s.cnt.toNat + (s.lutAt b).len.toNat + 7) / 8 ≤ 2 ^ 32 - 1 →
      ∃ t, exec (.data b) s = .next t ∧
        t = { s with
          pend := t.pend, buf := t.buf, cnt := t.cnt, compCount := t.compCount, origCount := s.origCount + 1 } ∧
        t.writtenBits = s.writtenBits ++ (s.lutAt b).code ∧
        t.cnt.toNat = (s.cnt.toNat + (s.lutAt b).len.toNat) % 8 ∧
        t.compCount.toNat = s.compCount.toNat + (s.cnt.toNat + (s.lutAt b).len.toNat) / 8 ∧
        t.pend.length = s.pend.length + (s.cnt.toNat + (s.lutAt b).len.toNat) / 8)

/-- R132, R104: a file of m bytes whose codes have T bits is encoded to ceil(T / 8) bytes that carry exactly those bits and then the padding
zeros; the three counters say so. -/
def Obligations.EncodedFileCarriesTheCodes : Prop :=
  ∀ (s : State) (xs : List Byte), s.mode = .idle → LutSound s → (∀ x ∈ xs, (s.lutAt x).valid = true) →
    xs.length < 2 ^ 32 → ((s.codesOf xs).length + 7) / 8 < 2 ^ 32 →
      ∃ t payload, runInstrs ([.encBegin] ++ xs.map .data ++ [.encFlush]) s = .next t ∧
        t = { s with
          pend := s.pend ++ payload, buf := 0, cnt := 0, origCount := t.origCount, compCount := t.compCount,
          padding := t.padding } ∧
        t.origCount.toNat = xs.length ∧ t.compCount.toNat = ((s.codesOf xs).length + 7) / 8 ∧
        t.padding.toNat = (8 - (s.codesOf xs).length % 8) % 8 ∧
        payload.length = ((s.codesOf xs).length + 7) / 8 ∧
        byteBits payload = s.codesOf xs ++ List.replicate t.padding.toNat false

/-! ## The decoder -/

/-- R136: DEC.BEGIN makes its three checks in their order, then latches O, C and P and enters DECODE when C > 0. -/
def Obligations.DecodeBeginChecksAndLatches : Prop :=
  ∀ s : State, CommandRaises .decBegin 0x50 0 .idle s ∧
    (s.mode = .idle → 7 < s.arg2.toNat → exec .decBegin s = .next (errorState s 0x140 0x50000000 (s.seq - 1))) ∧
    (s.mode = .idle → s.arg2.toNat ≤ 7 → s.cbCount = 0 → s.arg0 ≠ 0 →
      exec .decBegin s = .next (errorState s 0x135 0x50000000 (s.seq - 1))) ∧
    (s.mode = .idle → s.arg2.toNat ≤ 7 → s.cbCount ≠ 0 → s.arg1 = 0 → s.arg0 ≠ 0 →
      exec .decBegin s = .next (errorState s 0x141 0x50000000 (s.seq - 1))) ∧
    (s.mode = .idle → s.arg2.toNat ≤ 7 → (s.arg0 = 0 ∨ (s.cbCount ≠ 0 ∧ s.arg1 ≠ 0)) →
      exec .decBegin s = .next { s with
        decO := s.arg0, decC := s.arg1, decP := BitVec.ofNat 3 s.arg2.toNat, decEmitted := 0, decConsumed := 0, key := [],
        mode := if s.arg1 = 0 then .idle else .decode })

/-- R137, R103, D31: DATA in DECODE reads the byte's valid bits, all eight but for the C-th byte, whose low P bits are padding; a key that cannot
match raises UNMATCHABLE; once O symbols are out no bit is read; the byte is counted, and the C-th ends the mode, or raises
PAYLOAD_EXHAUSTED when fewer than O symbols are out. -/
def Obligations.DecodeConsumesOnePayloadByte : Prop :=
  ∀ (s : State) (b : Byte) (bits : Bits), s.mode = .decode →
    bits = (lowBits b 8).take (if s.decConsumed + 1 = s.decC then 8 - s.decP.toNat else 8) →
      (s.decEmitted = s.decO → decodeKeyBits bits s = .ok s) ∧
      (decodeKeyBits bits s = .error .unmatchable →
        exec (.data b) s = .next (errorState s 0x142 (b.setWidth 32) (s.seq - 1))) ∧
      (∀ u : State, decodeKeyBits bits s = .ok u →
        (s.decConsumed + 1 ≠ s.decC → exec (.data b) s = .next { u with decConsumed := s.decConsumed + 1 }) ∧
        (s.decConsumed + 1 = s.decC → u.decEmitted.toNat < s.decO.toNat →
          exec (.data b) s = .next (errorState s 0x141 (b.setWidth 32) (s.seq - 1))) ∧
        (s.decConsumed + 1 = s.decC → s.decO.toNat ≤ u.decEmitted.toNat →
          exec (.data b) s = .next { u with decConsumed := s.decConsumed + 1, key := [], mode := .idle }))

/-- R137, R135, D30: the first code that the key equals is emitted at once, so of two codes of which one begins the other the longer is
never emitted, and a key of CB_MAXLEN bits that matches nothing raises UNMATCHABLE. One bit of a payload byte, in front of any others. The
premises are invariants, so that at most one entry matches (log 12). -/
def Obligations.KeyMatchesAtTheFirstCode : Prop :=
  ∀ (s : State) (bit : Bool) (bits : Bits), MemoriesCanonical s → LutSound s → CodesDistinct s → s.decEmitted ≠ s.decO →
    (∀ c : Byte, (s.lutAt c).valid = true → (s.lutAt c).code = s.key ++ [bit] →
      decodeKeyBits (bit :: bits) s =
        decodeKeyBits bits { s with pend := s.pend ++ [c], decEmitted := s.decEmitted + 1, key := [] }) ∧
    ((∀ c : Byte, (s.lutAt c).valid = true → (s.lutAt c).code ≠ s.key ++ [bit]) →
      (s.cbMaxlen.toNat ≤ s.key.length + 1 → decodeKeyBits (bit :: bits) s = .error .unmatchable) ∧
      (s.key.length + 1 < s.cbMaxlen.toNat →
        decodeKeyBits (bit :: bits) s = decodeKeyBits bits { s with key := s.key ++ [bit] }))

/-- R138: a file encoded with a prefix-free codebook and decoded with the same codebook comes back byte for byte, with no error, ending in
IDLE. -/
def Obligations.PerFileRoundTrip : Prop :=
  ∀ (s t u : State) (xs payload : List Byte),
    s.mode = .idle → u.mode = .idle → MemoriesCanonical s → LutSound s → CodebookCounted s → CodesPrefixFree s →
    u.lut = s.lut → u.cbCount = s.cbCount → u.cbMaxlen = s.cbMaxlen →
    runInstrs ([.encBegin] ++ xs.map .data ++ [.encFlush]) s = .next t → t.mode = .idle → t.pend = s.pend ++ payload →
      ∃ v, runInstrs ([.arg0 t.origCount, .arg1 t.compCount, .arg2 (t.padding.setWidth 32), .decBegin] ++ payload.map .data) u
          = .next v ∧
        v.mode = .idle ∧ v.err = u.err ∧ v.pend = u.pend ++ xs

/-! ## Invariants -/

/-- The reset state meets every invariant stated here (R166). -/
def Obligations.ResetMeetsTheInvariants : Prop :=
  MemoriesCanonical State.reset ∧ QueuesBounded State.reset ∧ ErrorModeClean State.reset ∧ EncoderSound State.reset ∧
  DecoderSound State.reset ∧ LutSound State.reset ∧ ParserSound State.reset ∧ CodebookCounted State.reset ∧
  CodesDistinct State.reset ∧ LoadCounted State.reset ∧ TreeMatchesLut State.reset

/-- R42-R44: HIST, NODE and LUT stay in canonical form, over 256, 511 and 256 cells (log 8). -/
def Obligations.MemoriesStayCanonical : Prop :=
  ∀ s t : State, MemoriesCanonical s → step s = .next t → MemoriesCanonical t

/-- R60: Q never holds more than Q_DEPTH entries, and OUT never more than OUT_DEPTH bytes. -/
def Obligations.QueuesStayBounded : Prop :=
  ∀ s t : State, QueuesBounded s → step s = .next t → QueuesBounded t

/-- R99, R130, R131: BUF < 2^CNT, CNT is 0 outside ENCODE, and COMP_COUNT never passes 2^32 - 1, the flush byte counted. -/
def Obligations.BitWriterStaysSound : Prop :=
  ∀ s t : State, EncoderSound s → step s = .next t → EncoderSound t

/-- R137, R46: KEY stays shorter than CB_MAXLEN, at most O symbols are out, and DECODE ends with the C-th byte. -/
def Obligations.DecoderStaysSound : Prop :=
  ∀ s t : State, DecoderSound s → step s = .next t → DecoderSound t

/-- R44, R47: every LUT entry keeps VALID, LEN and CODE together with LEN in 1..256, and the parser keeps within its bounds. -/
def Obligations.LutEntriesStaySound : Prop :=
  ∀ s t : State, MemoriesCanonical s → LutSound s → ParserSound s → step s = .next t → LutSound t ∧ ParserSound t

/-- R48 (a), (b), (c): CB_COUNT counts the valid entries, CB_MAXLEN is their largest LEN, and no two have equal LEN and CODE. They are kept at
every step, not only while BUSY = 0. -/
def Obligations.CodebookStaysCountedAndDistinct : Prop :=
  ∀ s t : State,
    MemoriesCanonical s → LutSound s → ParserSound s → CodebookCounted s → CodesDistinct s → LoadCounted s →
    step s = .next t → CodebookCounted t ∧ CodesDistinct t ∧ LoadCounted t

/-- R48 (d): while TREE_ROOT.VALID = 1, NODE_COUNT = 2 x CB_COUNT - 1 and the LUT holds exactly the codes of the tree in NODE. -/
def Obligations.ValidTreeKeepsMatchingTheLut : Prop :=
  ∀ s t : State, TreeMatchesLut s → step s = .next t → TreeMatchesLut t

/-! ## The host archive protocol -/

/-- R140, R142: every archive that HostEncode returns begins with the same 27 bytes, and its suggested name is the uid followed by
".tar.sq". The bound on the host's loops is the model's own (log 15). -/
def Obligations.EveryArchiveBeginsWithTheHeader : Prop :=
  ∀ (fuel : Nat) (uid archive name : List Byte) (files : List ArchiveFile) (h h' : HostState),
    hostRun (hostEncode fuel uid files) h = (.ok (archive, name), h') →
      archive.take 27 =
        [0x00, 0x00, 0x00, 0x06, 0x73, 0x71, 0x75, 0x61, 0x73, 0x68, 0x00, 0x00, 0x00, 0x09, 0x2D, 0x2D, 0x76, 0x65, 0x72, 0x73,
          0x69, 0x6F, 0x6E, 0x00, 0x00, 0x00, 0x01] ∧
      name = uid ++ [0x2E, 0x74, 0x61, 0x72, 0x2E, 0x73, 0x71]

/-- R150: changing one byte at offsets 0 to 22 of an archive makes HostDecode report corrupted, and another version number makes it report
version-mismatch; the block is not touched. The bound on the host's loops is the model's own (log 15). -/
def Obligations.HeaderCorruptionIsReported : Prop :=
  (∀ (fuel k : Nat) (b : Byte) (rest : List Byte) (h : HostState), k < 23 → archiveHeader[k]? ≠ some b →
    hostRun (hostDecode fuel ((archiveHeader ++ rest).set k b)) h = (.error (.failed .corrupted), h)) ∧
  (∀ (fuel : Nat) (v rest : List Byte) (h : HostState), v.length = 4 → v ≠ [0, 0, 0, 1] →
    hostRun (hostDecode fuel (archiveHeader.take 23 ++ v ++ rest)) h = (.error (.failed .versionMismatch), h))
end

