-- ==== Sys2Proof/Laws/Memory.lean ====
section
/-! SUPPORT. The laws of the internal memories: what a read after a write gives, that a write keeps the canonical form, and that memories in
canonical form are equal when every cell reads the same. -/

namespace Sys2Proof.Machine.Memory

variable {α : Type} [DecidableEq α] {d : α} {size : Nat}

omit [DecidableEq α] in
@[simp] theorem read_nil (a : Nat) : Memory.read d ([] : Memory α) a = d := rfl

@[simp] theorem wf_nil : Memory.wf d size ([] : Memory α) = true := rfl

/-- The canonical form, cell by cell. -/
theorem wf_cons (k : Nat) (v : α) (m : Memory α) :
    Memory.wf d size ((k, v) :: m) = true ↔
      (∀ c ∈ m, k < c.1) ∧ v ≠ d ∧ k < size ∧ Memory.wf d size m = true := by
  simp only [Memory.wf, List.map_cons, List.pairwise_cons, List.mem_map, List.all_cons, Bool.and_eq_true, decide_eq_true_eq]
  constructor
  · rintro ⟨⟨h1, h2⟩, ⟨h3, h4⟩, h5⟩
    exact ⟨fun c hc => h1 _ ⟨c, hc, rfl⟩, h3, h4, h2, h5⟩
  · rintro ⟨h1, h3, h4, h2, h5⟩
    refine ⟨⟨?_, h2⟩, ⟨h3, h4⟩, h5⟩
    rintro _ ⟨c, hc, rfl⟩
    exact h1 c hc

omit [DecidableEq α] in
/-- An index below every listed one reads as the default. -/
theorem read_of_lt {m : Memory α} {a : Nat} (h : ∀ c ∈ m, a < c.1) : Memory.read d m a = d := by
  induction m with
  | nil => rfl
  | cons c m ih =>
    have hc := h c (by simp)
    rw [Memory.read, if_neg (by omega)]
    exact ih fun c hc => h c (by simp [hc])

/-- The cells of a write are the written one and cells that were there. -/
theorem mem_write {m : Memory α} {a : Nat} {v : α} {c : Nat × α} (h : c ∈ Memory.write d m a v) :
    c = (a, v) ∨ c ∈ m := by
  induction m with
  | nil =>
    simp only [Memory.write] at h
    split at h <;> simp_all
  | cons e m ih =>
    obtain ⟨k, w⟩ := e
    simp only [Memory.write] at h
    split at h
    · rcases List.mem_cons.1 h with h | h
      · exact .inr (by simp [h])
      · rcases ih h with h | h
        · exact .inl h
        · exact .inr (by simp [h])
    · split at h <;> split at h <;> simp_all
      rcases h with h | h <;> simp_all

/-- Every write keeps the canonical form. -/
theorem write_wf {m : Memory α} {a : Nat} {v : α} (h : Memory.wf d size m = true) (ha : a < size) :
    Memory.wf d size (Memory.write d m a v) = true := by
  induction m with
  | nil =>
    simp only [Memory.write]
    split
    · rfl
    · exact (wf_cons _ _ _).2 ⟨by simp, by assumption, ha, rfl⟩
  | cons e m ih =>
    obtain ⟨k, w⟩ := e
    obtain ⟨h1, h2, h3, h4⟩ := (wf_cons _ _ _).1 h
    simp only [Memory.write]
    split
    · refine (wf_cons _ _ _).2 ⟨fun c hc => ?_, h2, h3, ih h4⟩
      rcases mem_write hc with rfl | hc
      · assumption
      · exact h1 c hc
    · split
      · split
        · exact h4
        · refine (wf_cons _ _ _).2 ⟨fun c hc => ?_, by assumption, ha, h4⟩
          have := h1 c hc
          omega
      · split
        · exact h
        · refine (wf_cons _ _ _).2 ⟨fun c hc => ?_, by assumption, ha, h⟩
          rcases List.mem_cons.1 hc with rfl | hc
          · simp only; omega
          · have := h1 c hc
            omega

/-- A read after a write: the written cell gives the value, every other cell what it gave before. The form matters for the written cell
only. -/
theorem read_write {m : Memory α} (h : Memory.wf d size m = true) (a b : Nat) (v : α) :
    Memory.read d (Memory.write d m a v) b = if b = a then v else Memory.read d m b := by
  induction m with
  | nil =>
    simp only [Memory.write]
    by_cases hv : v = d <;> by_cases hb : b = a <;> simp [hv, hb, Memory.read]
    exact fun h => absurd h.symm hb
  | cons e m ih =>
    obtain ⟨k, w⟩ := e
    obtain ⟨h1, -, -, h4⟩ := (wf_cons _ _ _).1 h
    simp only [Memory.write]
    by_cases hka : k < a
    · rw [if_pos hka, Memory.read, Memory.read, ih h4]
      by_cases hkb : k = b
      · rw [if_pos hkb, if_pos hkb, if_neg (by omega)]
      · rw [if_neg hkb, if_neg hkb]
    · rw [if_neg hka]
      by_cases hk : k = a
      · rw [if_pos hk]
        subst hk
        have hlt : Memory.read d m k = d := read_of_lt h1
        by_cases hv : v = d
        · rw [if_pos hv]
          by_cases hb : b = k
          · rw [if_pos hb, hb, hlt, hv]
          · rw [if_neg hb, Memory.read, if_neg fun h => hb h.symm]
        · rw [if_neg hv, Memory.read]
          by_cases hb : b = k
          · rw [if_pos hb, if_pos hb.symm]
          · rw [if_neg hb, if_neg fun h => hb h.symm, Memory.read, if_neg fun h => hb h.symm]
      · rw [if_neg hk]
        have hlt : Memory.read d ((k, w) :: m) a = d := by
          refine read_of_lt fun c hc => ?_
          rcases List.mem_cons.1 hc with rfl | hc
          · simp only; omega
          · have := h1 c hc
            omega
        by_cases hv : v = d
        · rw [if_pos hv]
          by_cases hb : b = a
          · rw [if_pos hb, hb, hlt, hv]
          · rw [if_neg hb]
        · rw [if_neg hv]
          by_cases hb : b = a
          · rw [if_pos hb, hb, Memory.read, if_pos rfl]
          · rw [if_neg hb, Memory.read, if_neg fun h => hb h.symm]

/-- An index not below the size reads as the default. -/
theorem read_of_size_le {m : Memory α} (h : Memory.wf d size m = true) {a : Nat} (ha : size ≤ a) : Memory.read d m a = d := by
  induction m with
  | nil => rfl
  | cons e m ih =>
    obtain ⟨k, w⟩ := e
    obtain ⟨-, -, h3, h4⟩ := (wf_cons _ _ _).1 h
    rw [Memory.read, if_neg (by omega), ih h4]

/-- In canonical form a cell is listed exactly when it does not read as the default, with what it reads as. -/
theorem mem_iff_read {m : Memory α} (h : Memory.wf d size m = true) (a : Nat) (v : α) :
    (a, v) ∈ m ↔ Memory.read d m a = v ∧ v ≠ d := by
  induction m with
  | nil => simp only [List.not_mem_nil, read_nil, false_iff, not_and, not_not]; exact fun h => h.symm
  | cons e m ih =>
    obtain ⟨k, w⟩ := e
    obtain ⟨h1, h2, -, h4⟩ := (wf_cons _ _ _).1 h
    rw [Memory.read, List.mem_cons]
    by_cases hk : k = a
    · subst hk
      rw [if_pos rfl]
      constructor
      · rintro (h | h)
        · cases h; exact ⟨rfl, h2⟩
        · exact absurd (h1 _ h) (by simp)
      · rintro ⟨rfl, -⟩; exact .inl rfl
    · rw [if_neg hk, ← ih h4]
      constructor
      · rintro (h | h)
        · cases h; exact absurd rfl hk
        · exact h
      · exact .inr

/-- Memories in canonical form that read the same everywhere are the same list. -/
theorem ext {m n : Memory α} (hm : Memory.wf d size m = true) (hn : Memory.wf d size n = true)
    (h : ∀ a, Memory.read d m a = Memory.read d n a) : m = n := by
  induction m generalizing n with
  | nil =>
    cases n with
    | nil => rfl
    | cons e n =>
      obtain ⟨k, w⟩ := e
      have := h k
      rw [Memory.read_nil, Memory.read, if_pos rfl] at this
      exact absurd this.symm ((wf_cons _ _ _).1 hn).2.1
  | cons e m ih =>
    obtain ⟨k, w⟩ := e
    obtain ⟨a1, a2, -, a4⟩ := (wf_cons _ _ _).1 hm
    cases n with
    | nil =>
      have := h k
      rw [Memory.read_nil, Memory.read, if_pos rfl] at this
      exact absurd this a2
    | cons f n =>
      obtain ⟨j, x⟩ := f
      obtain ⟨b1, b2, -, b4⟩ := (wf_cons _ _ _).1 hn
      have hk : k = j := by
        rcases Nat.lt_trichotomy k j with hlt | rfl | hlt
        · exfalso
          have := h k
          rw [Memory.read, if_pos rfl, read_of_lt (fun c hc => ?_)] at this
          · exact a2 this
          · rcases List.mem_cons.1 hc with rfl | hc
            · exact hlt
            · exact Nat.lt_trans hlt (b1 c hc)
        · rfl
        · exfalso
          have := h j
          rw [read_of_lt (m := (k, w) :: m) (fun c hc => ?_), Memory.read, if_pos rfl] at this
          · exact b2 this.symm
          · rcases List.mem_cons.1 hc with rfl | hc
            · exact hlt
            · exact Nat.lt_trans hlt (a1 c hc)
      subst hk
      have hw : w = x := by
        have := h k
        rwa [Memory.read, if_pos rfl, Memory.read, if_pos rfl] at this
      subst hw
      congr 1
      refine ih a4 b4 fun a => ?_
      by_cases ha : a = k
      · subst ha
        rw [read_of_lt a1, read_of_lt b1]
      · have := h a
        rwa [Memory.read, if_neg fun h => ha h.symm, Memory.read, if_neg fun h => ha h.symm] at this

end Sys2Proof.Machine.Memory
end

