-- ==== Sys2Proof/Laws/State.lean ====
section
/-! SUPPORT. One lemma for each field of State under each named update: no later proof unfolds a record update. -/

namespace Sys2Proof.Machine

/-! ## toReset -/

@[simp] theorem State.toReset_mode (s : State) : (s.toReset).mode = .idle := rfl
@[simp] theorem State.toReset_q (s : State) : (s.toReset).q = [] := rfl
@[simp] theorem State.toReset_pend (s : State) : (s.toReset).pend = [] := rfl
@[simp] theorem State.toReset_out (s : State) : (s.toReset).out = [] := rfl
@[simp] theorem State.toReset_arg0 (s : State) : (s.toReset).arg0 = 0 := rfl
@[simp] theorem State.toReset_arg1 (s : State) : (s.toReset).arg1 = 0 := rfl
@[simp] theorem State.toReset_arg2 (s : State) : (s.toReset).arg2 = 0 := rfl
@[simp] theorem State.toReset_seq (s : State) : (s.toReset).seq = 0 := rfl
@[simp] theorem State.toReset_err (s : State) : (s.toReset).err = 0 := rfl
@[simp] theorem State.toReset_errInfo (s : State) : (s.toReset).errInfo = 0 := rfl
@[simp] theorem State.toReset_errSeq (s : State) : (s.toReset).errSeq = 0 := rfl
@[simp] theorem State.toReset_doneIE (s : State) : (s.toReset).doneIE = false := rfl
@[simp] theorem State.toReset_errIE (s : State) : (s.toReset).errIE = false := rfl
@[simp] theorem State.toReset_doneIP (s : State) : (s.toReset).doneIP = false := rfl
@[simp] theorem State.toReset_errIP (s : State) : (s.toReset).errIP = false := rfl
@[simp] theorem State.toReset_hist (s : State) : (s.toReset).hist = [] := rfl
@[simp] theorem State.toReset_node (s : State) : (s.toReset).node = [] := rfl
@[simp] theorem State.toReset_nodeCount (s : State) : (s.toReset).nodeCount = 0 := rfl
@[simp] theorem State.toReset_treeValid (s : State) : (s.toReset).treeValid = false := rfl
@[simp] theorem State.toReset_treeIndex (s : State) : (s.toReset).treeIndex = 0 := rfl
@[simp] theorem State.toReset_lut (s : State) : (s.toReset).lut = [] := rfl
@[simp] theorem State.toReset_cbCount (s : State) : (s.toReset).cbCount = 0 := rfl
@[simp] theorem State.toReset_cbMaxlen (s : State) : (s.toReset).cbMaxlen = 0 := rfl
@[simp] theorem State.toReset_buf (s : State) : (s.toReset).buf = 0 := rfl
@[simp] theorem State.toReset_cnt (s : State) : (s.toReset).cnt = 0 := rfl
@[simp] theorem State.toReset_origCount (s : State) : (s.toReset).origCount = 0 := rfl
@[simp] theorem State.toReset_compCount (s : State) : (s.toReset).compCount = 0 := rfl
@[simp] theorem State.toReset_padding (s : State) : (s.toReset).padding = 0 := rfl
@[simp] theorem State.toReset_decO (s : State) : (s.toReset).decO = 0 := rfl
@[simp] theorem State.toReset_decC (s : State) : (s.toReset).decC = 0 := rfl
@[simp] theorem State.toReset_decP (s : State) : (s.toReset).decP = 0 := rfl
@[simp] theorem State.toReset_decEmitted (s : State) : (s.toReset).decEmitted = 0 := rfl
@[simp] theorem State.toReset_decConsumed (s : State) : (s.toReset).decConsumed = 0 := rfl
@[simp] theorem State.toReset_key (s : State) : (s.toReset).key = [] := rfl
@[simp] theorem State.toReset_phase (s : State) : (s.toReset).phase = .count := rfl
@[simp] theorem State.toReset_acc (s : State) : (s.toReset).acc = 0 := rfl
@[simp] theorem State.toReset_idx (s : State) : (s.toReset).idx = 0 := rfl
@[simp] theorem State.toReset_cntTotal (s : State) : (s.toReset).cntTotal = 0 := rfl
@[simp] theorem State.toReset_doneCount (s : State) : (s.toReset).doneCount = 0 := rfl
@[simp] theorem State.toReset_csym (s : State) : (s.toReset).csym = 0 := rfl
@[simp] theorem State.toReset_clen (s : State) : (s.toReset).clen = 0 := rfl
@[simp] theorem State.toReset_ccode (s : State) : (s.toReset).ccode = [] := rfl
@[simp] theorem State.toReset_result0 (s : State) : (s.toReset).result0 = 0 := rfl
@[simp] theorem State.toReset_result1 (s : State) : (s.toReset).result1 = 0 := rfl
@[simp] theorem State.toReset_result2 (s : State) : (s.toReset).result2 = 0 := rfl
@[simp] theorem State.toReset_codew (s : State) : (s.toReset).codew = 0 := rfl
@[simp] theorem State.toReset_accesses (s : State) : (s.toReset).accesses = s.accesses := rfl
@[simp] theorem State.toReset_turns (s : State) : (s.toReset).turns = s.turns := rfl
@[simp] theorem State.toReset_reads (s : State) : (s.toReset).reads = s.reads := rfl
@[simp] theorem State.toReset_draws (s : State) : (s.toReset).draws = s.draws := rfl

/-! ## errorEntry -/

@[simp] theorem State.errorEntry_mode (s : State) (c : Cause) (info eseq : Word) : (s.errorEntry c info eseq).mode = .error := rfl
@[simp] theorem State.errorEntry_q (s : State) (c : Cause) (info eseq : Word) : (s.errorEntry c info eseq).q = [] := rfl
@[simp] theorem State.errorEntry_pend (s : State) (c : Cause) (info eseq : Word) : (s.errorEntry c info eseq).pend = [] := rfl
@[simp] theorem State.errorEntry_out (s : State) (c : Cause) (info eseq : Word) : (s.errorEntry c info eseq).out = [] := rfl
@[simp] theorem State.errorEntry_arg0 (s : State) (c : Cause) (info eseq : Word) : (s.errorEntry c info eseq).arg0 = 0 := rfl
@[simp] theorem State.errorEntry_arg1 (s : State) (c : Cause) (info eseq : Word) : (s.errorEntry c info eseq).arg1 = 0 := rfl
@[simp] theorem State.errorEntry_arg2 (s : State) (c : Cause) (info eseq : Word) : (s.errorEntry c info eseq).arg2 = 0 := rfl
@[simp] theorem State.errorEntry_seq (s : State) (c : Cause) (info eseq : Word) : (s.errorEntry c info eseq).seq = s.seq := rfl
@[simp] theorem State.errorEntry_err (s : State) (c : Cause) (info eseq : Word) : (s.errorEntry c info eseq).err = c.errWord := rfl
@[simp] theorem State.errorEntry_errInfo (s : State) (c : Cause) (info eseq : Word) : (s.errorEntry c info eseq).errInfo = info := rfl
@[simp] theorem State.errorEntry_errSeq (s : State) (c : Cause) (info eseq : Word) : (s.errorEntry c info eseq).errSeq = eseq := rfl
@[simp] theorem State.errorEntry_doneIE (s : State) (c : Cause) (info eseq : Word) : (s.errorEntry c info eseq).doneIE = s.doneIE := rfl
@[simp] theorem State.errorEntry_errIE (s : State) (c : Cause) (info eseq : Word) : (s.errorEntry c info eseq).errIE = s.errIE := rfl
@[simp] theorem State.errorEntry_doneIP (s : State) (c : Cause) (info eseq : Word) : (s.errorEntry c info eseq).doneIP = s.doneIP := rfl
@[simp] theorem State.errorEntry_errIP (s : State) (c : Cause) (info eseq : Word) : (s.errorEntry c info eseq).errIP = true := rfl
@[simp] theorem State.errorEntry_hist (s : State) (c : Cause) (info eseq : Word) : (s.errorEntry c info eseq).hist = [] := rfl
@[simp] theorem State.errorEntry_node (s : State) (c : Cause) (info eseq : Word) : (s.errorEntry c info eseq).node = [] := rfl
@[simp] theorem State.errorEntry_nodeCount (s : State) (c : Cause) (info eseq : Word) : (s.errorEntry c info eseq).nodeCount = 0 := rfl
@[simp] theorem State.errorEntry_treeValid (s : State) (c : Cause) (info eseq : Word) : (s.errorEntry c info eseq).treeValid = false := rfl
@[simp] theorem State.errorEntry_treeIndex (s : State) (c : Cause) (info eseq : Word) : (s.errorEntry c info eseq).treeIndex = 0 := rfl
@[simp] theorem State.errorEntry_lut (s : State) (c : Cause) (info eseq : Word) : (s.errorEntry c info eseq).lut = [] := rfl
@[simp] theorem State.errorEntry_cbCount (s : State) (c : Cause) (info eseq : Word) : (s.errorEntry c info eseq).cbCount = 0 := rfl
@[simp] theorem State.errorEntry_cbMaxlen (s : State) (c : Cause) (info eseq : Word) : (s.errorEntry c info eseq).cbMaxlen = 0 := rfl
@[simp] theorem State.errorEntry_buf (s : State) (c : Cause) (info eseq : Word) : (s.errorEntry c info eseq).buf = 0 := rfl
@[simp] theorem State.errorEntry_cnt (s : State) (c : Cause) (info eseq : Word) : (s.errorEntry c info eseq).cnt = 0 := rfl
@[simp] theorem State.errorEntry_origCount (s : State) (c : Cause) (info eseq : Word) : (s.errorEntry c info eseq).origCount = 0 := rfl
@[simp] theorem State.errorEntry_compCount (s : State) (c : Cause) (info eseq : Word) : (s.errorEntry c info eseq).compCount = 0 := rfl
@[simp] theorem State.errorEntry_padding (s : State) (c : Cause) (info eseq : Word) : (s.errorEntry c info eseq).padding = 0 := rfl
@[simp] theorem State.errorEntry_decO (s : State) (c : Cause) (info eseq : Word) : (s.errorEntry c info eseq).decO = 0 := rfl
@[simp] theorem State.errorEntry_decC (s : State) (c : Cause) (info eseq : Word) : (s.errorEntry c info eseq).decC = 0 := rfl
@[simp] theorem State.errorEntry_decP (s : State) (c : Cause) (info eseq : Word) : (s.errorEntry c info eseq).decP = 0 := rfl
@[simp] theorem State.errorEntry_decEmitted (s : State) (c : Cause) (info eseq : Word) : (s.errorEntry c info eseq).decEmitted = 0 := rfl
@[simp] theorem State.errorEntry_decConsumed (s : State) (c : Cause) (info eseq : Word) : (s.errorEntry c info eseq).decConsumed = 0 := rfl
@[simp] theorem State.errorEntry_key (s : State) (c : Cause) (info eseq : Word) : (s.errorEntry c info eseq).key = [] := rfl
@[simp] theorem State.errorEntry_phase (s : State) (c : Cause) (info eseq : Word) : (s.errorEntry c info eseq).phase = .count := rfl
@[simp] theorem State.errorEntry_acc (s : State) (c : Cause) (info eseq : Word) : (s.errorEntry c info eseq).acc = 0 := rfl
@[simp] theorem State.errorEntry_idx (s : State) (c : Cause) (info eseq : Word) : (s.errorEntry c info eseq).idx = 0 := rfl
@[simp] theorem State.errorEntry_cntTotal (s : State) (c : Cause) (info eseq : Word) : (s.errorEntry c info eseq).cntTotal = 0 := rfl
@[simp] theorem State.errorEntry_doneCount (s : State) (c : Cause) (info eseq : Word) : (s.errorEntry c info eseq).doneCount = 0 := rfl
@[simp] theorem State.errorEntry_csym (s : State) (c : Cause) (info eseq : Word) : (s.errorEntry c info eseq).csym = 0 := rfl
@[simp] theorem State.errorEntry_clen (s : State) (c : Cause) (info eseq : Word) : (s.errorEntry c info eseq).clen = 0 := rfl
@[simp] theorem State.errorEntry_ccode (s : State) (c : Cause) (info eseq : Word) : (s.errorEntry c info eseq).ccode = [] := rfl
@[simp] theorem State.errorEntry_result0 (s : State) (c : Cause) (info eseq : Word) : (s.errorEntry c info eseq).result0 = 0 := rfl
@[simp] theorem State.errorEntry_result1 (s : State) (c : Cause) (info eseq : Word) : (s.errorEntry c info eseq).result1 = 0 := rfl
@[simp] theorem State.errorEntry_result2 (s : State) (c : Cause) (info eseq : Word) : (s.errorEntry c info eseq).result2 = 0 := rfl
@[simp] theorem State.errorEntry_codew (s : State) (c : Cause) (info eseq : Word) : (s.errorEntry c info eseq).codew = 0 := rfl
@[simp] theorem State.errorEntry_accesses (s : State) (c : Cause) (info eseq : Word) : (s.errorEntry c info eseq).accesses = s.accesses := rfl
@[simp] theorem State.errorEntry_turns (s : State) (c : Cause) (info eseq : Word) : (s.errorEntry c info eseq).turns = s.turns := rfl
@[simp] theorem State.errorEntry_reads (s : State) (c : Cause) (info eseq : Word) : (s.errorEntry c info eseq).reads = s.reads := rfl
@[simp] theorem State.errorEntry_draws (s : State) (c : Cause) (info eseq : Word) : (s.errorEntry c info eseq).draws = s.draws := rfl

/-! ## dequeue -/

@[simp] theorem State.dequeue_mode (s : State) : (s.dequeue).mode = s.mode := rfl
@[simp] theorem State.dequeue_q (s : State) : (s.dequeue).q = s.q.tail := rfl
@[simp] theorem State.dequeue_pend (s : State) : (s.dequeue).pend = s.pend := rfl
@[simp] theorem State.dequeue_out (s : State) : (s.dequeue).out = s.out := rfl
@[simp] theorem State.dequeue_arg0 (s : State) : (s.dequeue).arg0 = s.arg0 := rfl
@[simp] theorem State.dequeue_arg1 (s : State) : (s.dequeue).arg1 = s.arg1 := rfl
@[simp] theorem State.dequeue_arg2 (s : State) : (s.dequeue).arg2 = s.arg2 := rfl
@[simp] theorem State.dequeue_seq (s : State) : (s.dequeue).seq = s.seq + 1 := rfl
@[simp] theorem State.dequeue_err (s : State) : (s.dequeue).err = s.err := rfl
@[simp] theorem State.dequeue_errInfo (s : State) : (s.dequeue).errInfo = s.errInfo := rfl
@[simp] theorem State.dequeue_errSeq (s : State) : (s.dequeue).errSeq = s.errSeq := rfl
@[simp] theorem State.dequeue_doneIE (s : State) : (s.dequeue).doneIE = s.doneIE := rfl
@[simp] theorem State.dequeue_errIE (s : State) : (s.dequeue).errIE = s.errIE := rfl
@[simp] theorem State.dequeue_doneIP (s : State) : (s.dequeue).doneIP = s.doneIP := rfl
@[simp] theorem State.dequeue_errIP (s : State) : (s.dequeue).errIP = s.errIP := rfl
@[simp] theorem State.dequeue_hist (s : State) : (s.dequeue).hist = s.hist := rfl
@[simp] theorem State.dequeue_node (s : State) : (s.dequeue).node = s.node := rfl
@[simp] theorem State.dequeue_nodeCount (s : State) : (s.dequeue).nodeCount = s.nodeCount := rfl
@[simp] theorem State.dequeue_treeValid (s : State) : (s.dequeue).treeValid = s.treeValid := rfl
@[simp] theorem State.dequeue_treeIndex (s : State) : (s.dequeue).treeIndex = s.treeIndex := rfl
@[simp] theorem State.dequeue_lut (s : State) : (s.dequeue).lut = s.lut := rfl
@[simp] theorem State.dequeue_cbCount (s : State) : (s.dequeue).cbCount = s.cbCount := rfl
@[simp] theorem State.dequeue_cbMaxlen (s : State) : (s.dequeue).cbMaxlen = s.cbMaxlen := rfl
@[simp] theorem State.dequeue_buf (s : State) : (s.dequeue).buf = s.buf := rfl
@[simp] theorem State.dequeue_cnt (s : State) : (s.dequeue).cnt = s.cnt := rfl
@[simp] theorem State.dequeue_origCount (s : State) : (s.dequeue).origCount = s.origCount := rfl
@[simp] theorem State.dequeue_compCount (s : State) : (s.dequeue).compCount = s.compCount := rfl
@[simp] theorem State.dequeue_padding (s : State) : (s.dequeue).padding = s.padding := rfl
@[simp] theorem State.dequeue_decO (s : State) : (s.dequeue).decO = s.decO := rfl
@[simp] theorem State.dequeue_decC (s : State) : (s.dequeue).decC = s.decC := rfl
@[simp] theorem State.dequeue_decP (s : State) : (s.dequeue).decP = s.decP := rfl
@[simp] theorem State.dequeue_decEmitted (s : State) : (s.dequeue).decEmitted = s.decEmitted := rfl
@[simp] theorem State.dequeue_decConsumed (s : State) : (s.dequeue).decConsumed = s.decConsumed := rfl
@[simp] theorem State.dequeue_key (s : State) : (s.dequeue).key = s.key := rfl
@[simp] theorem State.dequeue_phase (s : State) : (s.dequeue).phase = s.phase := rfl
@[simp] theorem State.dequeue_acc (s : State) : (s.dequeue).acc = s.acc := rfl
@[simp] theorem State.dequeue_idx (s : State) : (s.dequeue).idx = s.idx := rfl
@[simp] theorem State.dequeue_cntTotal (s : State) : (s.dequeue).cntTotal = s.cntTotal := rfl
@[simp] theorem State.dequeue_doneCount (s : State) : (s.dequeue).doneCount = s.doneCount := rfl
@[simp] theorem State.dequeue_csym (s : State) : (s.dequeue).csym = s.csym := rfl
@[simp] theorem State.dequeue_clen (s : State) : (s.dequeue).clen = s.clen := rfl
@[simp] theorem State.dequeue_ccode (s : State) : (s.dequeue).ccode = s.ccode := rfl
@[simp] theorem State.dequeue_result0 (s : State) : (s.dequeue).result0 = s.result0 := rfl
@[simp] theorem State.dequeue_result1 (s : State) : (s.dequeue).result1 = s.result1 := rfl
@[simp] theorem State.dequeue_result2 (s : State) : (s.dequeue).result2 = s.result2 := rfl
@[simp] theorem State.dequeue_codew (s : State) : (s.dequeue).codew = s.codew := rfl
@[simp] theorem State.dequeue_accesses (s : State) : (s.dequeue).accesses = s.accesses := rfl
@[simp] theorem State.dequeue_turns (s : State) : (s.dequeue).turns = s.turns := rfl
@[simp] theorem State.dequeue_reads (s : State) : (s.dequeue).reads = s.reads := rfl
@[simp] theorem State.dequeue_draws (s : State) : (s.dequeue).draws = s.draws := rfl

/-! ## drainByte -/

@[simp] theorem State.drainByte_mode (s : State) : (s.drainByte).mode = s.mode := rfl
@[simp] theorem State.drainByte_q (s : State) : (s.drainByte).q = s.q := rfl
@[simp] theorem State.drainByte_pend (s : State) : (s.drainByte).pend = s.pend.tail := rfl
@[simp] theorem State.drainByte_out (s : State) : (s.drainByte).out = s.out ++ s.pend.take 1 := rfl
@[simp] theorem State.drainByte_arg0 (s : State) : (s.drainByte).arg0 = s.arg0 := rfl
@[simp] theorem State.drainByte_arg1 (s : State) : (s.drainByte).arg1 = s.arg1 := rfl
@[simp] theorem State.drainByte_arg2 (s : State) : (s.drainByte).arg2 = s.arg2 := rfl
@[simp] theorem State.drainByte_seq (s : State) : (s.drainByte).seq = s.seq := rfl
@[simp] theorem State.drainByte_err (s : State) : (s.drainByte).err = s.err := rfl
@[simp] theorem State.drainByte_errInfo (s : State) : (s.drainByte).errInfo = s.errInfo := rfl
@[simp] theorem State.drainByte_errSeq (s : State) : (s.drainByte).errSeq = s.errSeq := rfl
@[simp] theorem State.drainByte_doneIE (s : State) : (s.drainByte).doneIE = s.doneIE := rfl
@[simp] theorem State.drainByte_errIE (s : State) : (s.drainByte).errIE = s.errIE := rfl
@[simp] theorem State.drainByte_doneIP (s : State) : (s.drainByte).doneIP = s.doneIP := rfl
@[simp] theorem State.drainByte_errIP (s : State) : (s.drainByte).errIP = s.errIP := rfl
@[simp] theorem State.drainByte_hist (s : State) : (s.drainByte).hist = s.hist := rfl
@[simp] theorem State.drainByte_node (s : State) : (s.drainByte).node = s.node := rfl
@[simp] theorem State.drainByte_nodeCount (s : State) : (s.drainByte).nodeCount = s.nodeCount := rfl
@[simp] theorem State.drainByte_treeValid (s : State) : (s.drainByte).treeValid = s.treeValid := rfl
@[simp] theorem State.drainByte_treeIndex (s : State) : (s.drainByte).treeIndex = s.treeIndex := rfl
@[simp] theorem State.drainByte_lut (s : State) : (s.drainByte).lut = s.lut := rfl
@[simp] theorem State.drainByte_cbCount (s : State) : (s.drainByte).cbCount = s.cbCount := rfl
@[simp] theorem State.drainByte_cbMaxlen (s : State) : (s.drainByte).cbMaxlen = s.cbMaxlen := rfl
@[simp] theorem State.drainByte_buf (s : State) : (s.drainByte).buf = s.buf := rfl
@[simp] theorem State.drainByte_cnt (s : State) : (s.drainByte).cnt = s.cnt := rfl
@[simp] theorem State.drainByte_origCount (s : State) : (s.drainByte).origCount = s.origCount := rfl
@[simp] theorem State.drainByte_compCount (s : State) : (s.drainByte).compCount = s.compCount := rfl
@[simp] theorem State.drainByte_padding (s : State) : (s.drainByte).padding = s.padding := rfl
@[simp] theorem State.drainByte_decO (s : State) : (s.drainByte).decO = s.decO := rfl
@[simp] theorem State.drainByte_decC (s : State) : (s.drainByte).decC = s.decC := rfl
@[simp] theorem State.drainByte_decP (s : State) : (s.drainByte).decP = s.decP := rfl
@[simp] theorem State.drainByte_decEmitted (s : State) : (s.drainByte).decEmitted = s.decEmitted := rfl
@[simp] theorem State.drainByte_decConsumed (s : State) : (s.drainByte).decConsumed = s.decConsumed := rfl
@[simp] theorem State.drainByte_key (s : State) : (s.drainByte).key = s.key := rfl
@[simp] theorem State.drainByte_phase (s : State) : (s.drainByte).phase = s.phase := rfl
@[simp] theorem State.drainByte_acc (s : State) : (s.drainByte).acc = s.acc := rfl
@[simp] theorem State.drainByte_idx (s : State) : (s.drainByte).idx = s.idx := rfl
@[simp] theorem State.drainByte_cntTotal (s : State) : (s.drainByte).cntTotal = s.cntTotal := rfl
@[simp] theorem State.drainByte_doneCount (s : State) : (s.drainByte).doneCount = s.doneCount := rfl
@[simp] theorem State.drainByte_csym (s : State) : (s.drainByte).csym = s.csym := rfl
@[simp] theorem State.drainByte_clen (s : State) : (s.drainByte).clen = s.clen := rfl
@[simp] theorem State.drainByte_ccode (s : State) : (s.drainByte).ccode = s.ccode := rfl
@[simp] theorem State.drainByte_result0 (s : State) : (s.drainByte).result0 = s.result0 := rfl
@[simp] theorem State.drainByte_result1 (s : State) : (s.drainByte).result1 = s.result1 := rfl
@[simp] theorem State.drainByte_result2 (s : State) : (s.drainByte).result2 = s.result2 := rfl
@[simp] theorem State.drainByte_codew (s : State) : (s.drainByte).codew = s.codew := rfl
@[simp] theorem State.drainByte_accesses (s : State) : (s.drainByte).accesses = s.accesses := rfl
@[simp] theorem State.drainByte_turns (s : State) : (s.drainByte).turns = s.turns := rfl
@[simp] theorem State.drainByte_reads (s : State) : (s.drainByte).reads = s.reads := rfl
@[simp] theorem State.drainByte_draws (s : State) : (s.drainByte).draws = s.draws := rfl

/-! ## enqueue -/

@[simp] theorem State.enqueue_mode (s : State) (e : Entry) : (s.enqueue e).mode = s.mode := rfl
@[simp] theorem State.enqueue_q (s : State) (e : Entry) : (s.enqueue e).q = s.q ++ [e] := rfl
@[simp] theorem State.enqueue_pend (s : State) (e : Entry) : (s.enqueue e).pend = s.pend := rfl
@[simp] theorem State.enqueue_out (s : State) (e : Entry) : (s.enqueue e).out = s.out := rfl
@[simp] theorem State.enqueue_arg0 (s : State) (e : Entry) : (s.enqueue e).arg0 = s.arg0 := rfl
@[simp] theorem State.enqueue_arg1 (s : State) (e : Entry) : (s.enqueue e).arg1 = s.arg1 := rfl
@[simp] theorem State.enqueue_arg2 (s : State) (e : Entry) : (s.enqueue e).arg2 = s.arg2 := rfl
@[simp] theorem State.enqueue_seq (s : State) (e : Entry) : (s.enqueue e).seq = s.seq := rfl
@[simp] theorem State.enqueue_err (s : State) (e : Entry) : (s.enqueue e).err = s.err := rfl
@[simp] theorem State.enqueue_errInfo (s : State) (e : Entry) : (s.enqueue e).errInfo = s.errInfo := rfl
@[simp] theorem State.enqueue_errSeq (s : State) (e : Entry) : (s.enqueue e).errSeq = s.errSeq := rfl
@[simp] theorem State.enqueue_doneIE (s : State) (e : Entry) : (s.enqueue e).doneIE = s.doneIE := rfl
@[simp] theorem State.enqueue_errIE (s : State) (e : Entry) : (s.enqueue e).errIE = s.errIE := rfl
@[simp] theorem State.enqueue_doneIP (s : State) (e : Entry) : (s.enqueue e).doneIP = s.doneIP := rfl
@[simp] theorem State.enqueue_errIP (s : State) (e : Entry) : (s.enqueue e).errIP = s.errIP := rfl
@[simp] theorem State.enqueue_hist (s : State) (e : Entry) : (s.enqueue e).hist = s.hist := rfl
@[simp] theorem State.enqueue_node (s : State) (e : Entry) : (s.enqueue e).node = s.node := rfl
@[simp] theorem State.enqueue_nodeCount (s : State) (e : Entry) : (s.enqueue e).nodeCount = s.nodeCount := rfl
@[simp] theorem State.enqueue_treeValid (s : State) (e : Entry) : (s.enqueue e).treeValid = s.treeValid := rfl
@[simp] theorem State.enqueue_treeIndex (s : State) (e : Entry) : (s.enqueue e).treeIndex = s.treeIndex := rfl
@[simp] theorem State.enqueue_lut (s : State) (e : Entry) : (s.enqueue e).lut = s.lut := rfl
@[simp] theorem State.enqueue_cbCount (s : State) (e : Entry) : (s.enqueue e).cbCount = s.cbCount := rfl
@[simp] theorem State.enqueue_cbMaxlen (s : State) (e : Entry) : (s.enqueue e).cbMaxlen = s.cbMaxlen := rfl
@[simp] theorem State.enqueue_buf (s : State) (e : Entry) : (s.enqueue e).buf = s.buf := rfl
@[simp] theorem State.enqueue_cnt (s : State) (e : Entry) : (s.enqueue e).cnt = s.cnt := rfl
@[simp] theorem State.enqueue_origCount (s : State) (e : Entry) : (s.enqueue e).origCount = s.origCount := rfl
@[simp] theorem State.enqueue_compCount (s : State) (e : Entry) : (s.enqueue e).compCount = s.compCount := rfl
@[simp] theorem State.enqueue_padding (s : State) (e : Entry) : (s.enqueue e).padding = s.padding := rfl
@[simp] theorem State.enqueue_decO (s : State) (e : Entry) : (s.enqueue e).decO = s.decO := rfl
@[simp] theorem State.enqueue_decC (s : State) (e : Entry) : (s.enqueue e).decC = s.decC := rfl
@[simp] theorem State.enqueue_decP (s : State) (e : Entry) : (s.enqueue e).decP = s.decP := rfl
@[simp] theorem State.enqueue_decEmitted (s : State) (e : Entry) : (s.enqueue e).decEmitted = s.decEmitted := rfl
@[simp] theorem State.enqueue_decConsumed (s : State) (e : Entry) : (s.enqueue e).decConsumed = s.decConsumed := rfl
@[simp] theorem State.enqueue_key (s : State) (e : Entry) : (s.enqueue e).key = s.key := rfl
@[simp] theorem State.enqueue_phase (s : State) (e : Entry) : (s.enqueue e).phase = s.phase := rfl
@[simp] theorem State.enqueue_acc (s : State) (e : Entry) : (s.enqueue e).acc = s.acc := rfl
@[simp] theorem State.enqueue_idx (s : State) (e : Entry) : (s.enqueue e).idx = s.idx := rfl
@[simp] theorem State.enqueue_cntTotal (s : State) (e : Entry) : (s.enqueue e).cntTotal = s.cntTotal := rfl
@[simp] theorem State.enqueue_doneCount (s : State) (e : Entry) : (s.enqueue e).doneCount = s.doneCount := rfl
@[simp] theorem State.enqueue_csym (s : State) (e : Entry) : (s.enqueue e).csym = s.csym := rfl
@[simp] theorem State.enqueue_clen (s : State) (e : Entry) : (s.enqueue e).clen = s.clen := rfl
@[simp] theorem State.enqueue_ccode (s : State) (e : Entry) : (s.enqueue e).ccode = s.ccode := rfl
@[simp] theorem State.enqueue_result0 (s : State) (e : Entry) : (s.enqueue e).result0 = s.result0 := rfl
@[simp] theorem State.enqueue_result1 (s : State) (e : Entry) : (s.enqueue e).result1 = s.result1 := rfl
@[simp] theorem State.enqueue_result2 (s : State) (e : Entry) : (s.enqueue e).result2 = s.result2 := rfl
@[simp] theorem State.enqueue_codew (s : State) (e : Entry) : (s.enqueue e).codew = s.codew := rfl
@[simp] theorem State.enqueue_accesses (s : State) (e : Entry) : (s.enqueue e).accesses = s.accesses := rfl
@[simp] theorem State.enqueue_turns (s : State) (e : Entry) : (s.enqueue e).turns = s.turns := rfl
@[simp] theorem State.enqueue_reads (s : State) (e : Entry) : (s.enqueue e).reads = s.reads := rfl
@[simp] theorem State.enqueue_draws (s : State) (e : Entry) : (s.enqueue e).draws = s.draws := rfl

/-! ## pushAll -/

@[simp] theorem State.pushAll_mode (s : State) (bs : List Byte) : (s.pushAll bs).mode = s.mode := rfl
@[simp] theorem State.pushAll_q (s : State) (bs : List Byte) : (s.pushAll bs).q = s.q := rfl
@[simp] theorem State.pushAll_pend (s : State) (bs : List Byte) : (s.pushAll bs).pend = s.pend ++ bs := rfl
@[simp] theorem State.pushAll_out (s : State) (bs : List Byte) : (s.pushAll bs).out = s.out := rfl
@[simp] theorem State.pushAll_arg0 (s : State) (bs : List Byte) : (s.pushAll bs).arg0 = s.arg0 := rfl
@[simp] theorem State.pushAll_arg1 (s : State) (bs : List Byte) : (s.pushAll bs).arg1 = s.arg1 := rfl
@[simp] theorem State.pushAll_arg2 (s : State) (bs : List Byte) : (s.pushAll bs).arg2 = s.arg2 := rfl
@[simp] theorem State.pushAll_seq (s : State) (bs : List Byte) : (s.pushAll bs).seq = s.seq := rfl
@[simp] theorem State.pushAll_err (s : State) (bs : List Byte) : (s.pushAll bs).err = s.err := rfl
@[simp] theorem State.pushAll_errInfo (s : State) (bs : List Byte) : (s.pushAll bs).errInfo = s.errInfo := rfl
@[simp] theorem State.pushAll_errSeq (s : State) (bs : List Byte) : (s.pushAll bs).errSeq = s.errSeq := rfl
@[simp] theorem State.pushAll_doneIE (s : State) (bs : List Byte) : (s.pushAll bs).doneIE = s.doneIE := rfl
@[simp] theorem State.pushAll_errIE (s : State) (bs : List Byte) : (s.pushAll bs).errIE = s.errIE := rfl
@[simp] theorem State.pushAll_doneIP (s : State) (bs : List Byte) : (s.pushAll bs).doneIP = s.doneIP := rfl
@[simp] theorem State.pushAll_errIP (s : State) (bs : List Byte) : (s.pushAll bs).errIP = s.errIP := rfl
@[simp] theorem State.pushAll_hist (s : State) (bs : List Byte) : (s.pushAll bs).hist = s.hist := rfl
@[simp] theorem State.pushAll_node (s : State) (bs : List Byte) : (s.pushAll bs).node = s.node := rfl
@[simp] theorem State.pushAll_nodeCount (s : State) (bs : List Byte) : (s.pushAll bs).nodeCount = s.nodeCount := rfl
@[simp] theorem State.pushAll_treeValid (s : State) (bs : List Byte) : (s.pushAll bs).treeValid = s.treeValid := rfl
@[simp] theorem State.pushAll_treeIndex (s : State) (bs : List Byte) : (s.pushAll bs).treeIndex = s.treeIndex := rfl
@[simp] theorem State.pushAll_lut (s : State) (bs : List Byte) : (s.pushAll bs).lut = s.lut := rfl
@[simp] theorem State.pushAll_cbCount (s : State) (bs : List Byte) : (s.pushAll bs).cbCount = s.cbCount := rfl
@[simp] theorem State.pushAll_cbMaxlen (s : State) (bs : List Byte) : (s.pushAll bs).cbMaxlen = s.cbMaxlen := rfl
@[simp] theorem State.pushAll_buf (s : State) (bs : List Byte) : (s.pushAll bs).buf = s.buf := rfl
@[simp] theorem State.pushAll_cnt (s : State) (bs : List Byte) : (s.pushAll bs).cnt = s.cnt := rfl
@[simp] theorem State.pushAll_origCount (s : State) (bs : List Byte) : (s.pushAll bs).origCount = s.origCount := rfl
@[simp] theorem State.pushAll_compCount (s : State) (bs : List Byte) : (s.pushAll bs).compCount = s.compCount := rfl
@[simp] theorem State.pushAll_padding (s : State) (bs : List Byte) : (s.pushAll bs).padding = s.padding := rfl
@[simp] theorem State.pushAll_decO (s : State) (bs : List Byte) : (s.pushAll bs).decO = s.decO := rfl
@[simp] theorem State.pushAll_decC (s : State) (bs : List Byte) : (s.pushAll bs).decC = s.decC := rfl
@[simp] theorem State.pushAll_decP (s : State) (bs : List Byte) : (s.pushAll bs).decP = s.decP := rfl
@[simp] theorem State.pushAll_decEmitted (s : State) (bs : List Byte) : (s.pushAll bs).decEmitted = s.decEmitted := rfl
@[simp] theorem State.pushAll_decConsumed (s : State) (bs : List Byte) : (s.pushAll bs).decConsumed = s.decConsumed := rfl
@[simp] theorem State.pushAll_key (s : State) (bs : List Byte) : (s.pushAll bs).key = s.key := rfl
@[simp] theorem State.pushAll_phase (s : State) (bs : List Byte) : (s.pushAll bs).phase = s.phase := rfl
@[simp] theorem State.pushAll_acc (s : State) (bs : List Byte) : (s.pushAll bs).acc = s.acc := rfl
@[simp] theorem State.pushAll_idx (s : State) (bs : List Byte) : (s.pushAll bs).idx = s.idx := rfl
@[simp] theorem State.pushAll_cntTotal (s : State) (bs : List Byte) : (s.pushAll bs).cntTotal = s.cntTotal := rfl
@[simp] theorem State.pushAll_doneCount (s : State) (bs : List Byte) : (s.pushAll bs).doneCount = s.doneCount := rfl
@[simp] theorem State.pushAll_csym (s : State) (bs : List Byte) : (s.pushAll bs).csym = s.csym := rfl
@[simp] theorem State.pushAll_clen (s : State) (bs : List Byte) : (s.pushAll bs).clen = s.clen := rfl
@[simp] theorem State.pushAll_ccode (s : State) (bs : List Byte) : (s.pushAll bs).ccode = s.ccode := rfl
@[simp] theorem State.pushAll_result0 (s : State) (bs : List Byte) : (s.pushAll bs).result0 = s.result0 := rfl
@[simp] theorem State.pushAll_result1 (s : State) (bs : List Byte) : (s.pushAll bs).result1 = s.result1 := rfl
@[simp] theorem State.pushAll_result2 (s : State) (bs : List Byte) : (s.pushAll bs).result2 = s.result2 := rfl
@[simp] theorem State.pushAll_codew (s : State) (bs : List Byte) : (s.pushAll bs).codew = s.codew := rfl
@[simp] theorem State.pushAll_accesses (s : State) (bs : List Byte) : (s.pushAll bs).accesses = s.accesses := rfl
@[simp] theorem State.pushAll_turns (s : State) (bs : List Byte) : (s.pushAll bs).turns = s.turns := rfl
@[simp] theorem State.pushAll_reads (s : State) (bs : List Byte) : (s.pushAll bs).reads = s.reads := rfl
@[simp] theorem State.pushAll_draws (s : State) (bs : List Byte) : (s.pushAll bs).draws = s.draws := rfl

/-! ## push -/

@[simp] theorem State.push_mode (s : State) (b : Byte) : (s.push b).mode = s.mode := rfl
@[simp] theorem State.push_q (s : State) (b : Byte) : (s.push b).q = s.q := rfl
@[simp] theorem State.push_pend (s : State) (b : Byte) : (s.push b).pend = s.pend ++ [b] := rfl
@[simp] theorem State.push_out (s : State) (b : Byte) : (s.push b).out = s.out := rfl
@[simp] theorem State.push_arg0 (s : State) (b : Byte) : (s.push b).arg0 = s.arg0 := rfl
@[simp] theorem State.push_arg1 (s : State) (b : Byte) : (s.push b).arg1 = s.arg1 := rfl
@[simp] theorem State.push_arg2 (s : State) (b : Byte) : (s.push b).arg2 = s.arg2 := rfl
@[simp] theorem State.push_seq (s : State) (b : Byte) : (s.push b).seq = s.seq := rfl
@[simp] theorem State.push_err (s : State) (b : Byte) : (s.push b).err = s.err := rfl
@[simp] theorem State.push_errInfo (s : State) (b : Byte) : (s.push b).errInfo = s.errInfo := rfl
@[simp] theorem State.push_errSeq (s : State) (b : Byte) : (s.push b).errSeq = s.errSeq := rfl
@[simp] theorem State.push_doneIE (s : State) (b : Byte) : (s.push b).doneIE = s.doneIE := rfl
@[simp] theorem State.push_errIE (s : State) (b : Byte) : (s.push b).errIE = s.errIE := rfl
@[simp] theorem State.push_doneIP (s : State) (b : Byte) : (s.push b).doneIP = s.doneIP := rfl
@[simp] theorem State.push_errIP (s : State) (b : Byte) : (s.push b).errIP = s.errIP := rfl
@[simp] theorem State.push_hist (s : State) (b : Byte) : (s.push b).hist = s.hist := rfl
@[simp] theorem State.push_node (s : State) (b : Byte) : (s.push b).node = s.node := rfl
@[simp] theorem State.push_nodeCount (s : State) (b : Byte) : (s.push b).nodeCount = s.nodeCount := rfl
@[simp] theorem State.push_treeValid (s : State) (b : Byte) : (s.push b).treeValid = s.treeValid := rfl
@[simp] theorem State.push_treeIndex (s : State) (b : Byte) : (s.push b).treeIndex = s.treeIndex := rfl
@[simp] theorem State.push_lut (s : State) (b : Byte) : (s.push b).lut = s.lut := rfl
@[simp] theorem State.push_cbCount (s : State) (b : Byte) : (s.push b).cbCount = s.cbCount := rfl
@[simp] theorem State.push_cbMaxlen (s : State) (b : Byte) : (s.push b).cbMaxlen = s.cbMaxlen := rfl
@[simp] theorem State.push_buf (s : State) (b : Byte) : (s.push b).buf = s.buf := rfl
@[simp] theorem State.push_cnt (s : State) (b : Byte) : (s.push b).cnt = s.cnt := rfl
@[simp] theorem State.push_origCount (s : State) (b : Byte) : (s.push b).origCount = s.origCount := rfl
@[simp] theorem State.push_compCount (s : State) (b : Byte) : (s.push b).compCount = s.compCount := rfl
@[simp] theorem State.push_padding (s : State) (b : Byte) : (s.push b).padding = s.padding := rfl
@[simp] theorem State.push_decO (s : State) (b : Byte) : (s.push b).decO = s.decO := rfl
@[simp] theorem State.push_decC (s : State) (b : Byte) : (s.push b).decC = s.decC := rfl
@[simp] theorem State.push_decP (s : State) (b : Byte) : (s.push b).decP = s.decP := rfl
@[simp] theorem State.push_decEmitted (s : State) (b : Byte) : (s.push b).decEmitted = s.decEmitted := rfl
@[simp] theorem State.push_decConsumed (s : State) (b : Byte) : (s.push b).decConsumed = s.decConsumed := rfl
@[simp] theorem State.push_key (s : State) (b : Byte) : (s.push b).key = s.key := rfl
@[simp] theorem State.push_phase (s : State) (b : Byte) : (s.push b).phase = s.phase := rfl
@[simp] theorem State.push_acc (s : State) (b : Byte) : (s.push b).acc = s.acc := rfl
@[simp] theorem State.push_idx (s : State) (b : Byte) : (s.push b).idx = s.idx := rfl
@[simp] theorem State.push_cntTotal (s : State) (b : Byte) : (s.push b).cntTotal = s.cntTotal := rfl
@[simp] theorem State.push_doneCount (s : State) (b : Byte) : (s.push b).doneCount = s.doneCount := rfl
@[simp] theorem State.push_csym (s : State) (b : Byte) : (s.push b).csym = s.csym := rfl
@[simp] theorem State.push_clen (s : State) (b : Byte) : (s.push b).clen = s.clen := rfl
@[simp] theorem State.push_ccode (s : State) (b : Byte) : (s.push b).ccode = s.ccode := rfl
@[simp] theorem State.push_result0 (s : State) (b : Byte) : (s.push b).result0 = s.result0 := rfl
@[simp] theorem State.push_result1 (s : State) (b : Byte) : (s.push b).result1 = s.result1 := rfl
@[simp] theorem State.push_result2 (s : State) (b : Byte) : (s.push b).result2 = s.result2 := rfl
@[simp] theorem State.push_codew (s : State) (b : Byte) : (s.push b).codew = s.codew := rfl
@[simp] theorem State.push_accesses (s : State) (b : Byte) : (s.push b).accesses = s.accesses := rfl
@[simp] theorem State.push_turns (s : State) (b : Byte) : (s.push b).turns = s.turns := rfl
@[simp] theorem State.push_reads (s : State) (b : Byte) : (s.push b).reads = s.reads := rfl
@[simp] theorem State.push_draws (s : State) (b : Byte) : (s.push b).draws = s.draws := rfl

/-! ## setHist -/

@[simp] theorem State.setHist_mode (s : State) (b : Byte) (v : BitVec 64) : (s.setHist b v).mode = s.mode := rfl
@[simp] theorem State.setHist_q (s : State) (b : Byte) (v : BitVec 64) : (s.setHist b v).q = s.q := rfl
@[simp] theorem State.setHist_pend (s : State) (b : Byte) (v : BitVec 64) : (s.setHist b v).pend = s.pend := rfl
@[simp] theorem State.setHist_out (s : State) (b : Byte) (v : BitVec 64) : (s.setHist b v).out = s.out := rfl
@[simp] theorem State.setHist_arg0 (s : State) (b : Byte) (v : BitVec 64) : (s.setHist b v).arg0 = s.arg0 := rfl
@[simp] theorem State.setHist_arg1 (s : State) (b : Byte) (v : BitVec 64) : (s.setHist b v).arg1 = s.arg1 := rfl
@[simp] theorem State.setHist_arg2 (s : State) (b : Byte) (v : BitVec 64) : (s.setHist b v).arg2 = s.arg2 := rfl
@[simp] theorem State.setHist_seq (s : State) (b : Byte) (v : BitVec 64) : (s.setHist b v).seq = s.seq := rfl
@[simp] theorem State.setHist_err (s : State) (b : Byte) (v : BitVec 64) : (s.setHist b v).err = s.err := rfl
@[simp] theorem State.setHist_errInfo (s : State) (b : Byte) (v : BitVec 64) : (s.setHist b v).errInfo = s.errInfo := rfl
@[simp] theorem State.setHist_errSeq (s : State) (b : Byte) (v : BitVec 64) : (s.setHist b v).errSeq = s.errSeq := rfl
@[simp] theorem State.setHist_doneIE (s : State) (b : Byte) (v : BitVec 64) : (s.setHist b v).doneIE = s.doneIE := rfl
@[simp] theorem State.setHist_errIE (s : State) (b : Byte) (v : BitVec 64) : (s.setHist b v).errIE = s.errIE := rfl
@[simp] theorem State.setHist_doneIP (s : State) (b : Byte) (v : BitVec 64) : (s.setHist b v).doneIP = s.doneIP := rfl
@[simp] theorem State.setHist_errIP (s : State) (b : Byte) (v : BitVec 64) : (s.setHist b v).errIP = s.errIP := rfl
@[simp] theorem State.setHist_hist (s : State) (b : Byte) (v : BitVec 64) : (s.setHist b v).hist = Memory.write 0 s.hist b.toNat v := rfl
@[simp] theorem State.setHist_node (s : State) (b : Byte) (v : BitVec 64) : (s.setHist b v).node = s.node := rfl
@[simp] theorem State.setHist_nodeCount (s : State) (b : Byte) (v : BitVec 64) : (s.setHist b v).nodeCount = s.nodeCount := rfl
@[simp] theorem State.setHist_treeValid (s : State) (b : Byte) (v : BitVec 64) : (s.setHist b v).treeValid = s.treeValid := rfl
@[simp] theorem State.setHist_treeIndex (s : State) (b : Byte) (v : BitVec 64) : (s.setHist b v).treeIndex = s.treeIndex := rfl
@[simp] theorem State.setHist_lut (s : State) (b : Byte) (v : BitVec 64) : (s.setHist b v).lut = s.lut := rfl
@[simp] theorem State.setHist_cbCount (s : State) (b : Byte) (v : BitVec 64) : (s.setHist b v).cbCount = s.cbCount := rfl
@[simp] theorem State.setHist_cbMaxlen (s : State) (b : Byte) (v : BitVec 64) : (s.setHist b v).cbMaxlen = s.cbMaxlen := rfl
@[simp] theorem State.setHist_buf (s : State) (b : Byte) (v : BitVec 64) : (s.setHist b v).buf = s.buf := rfl
@[simp] theorem State.setHist_cnt (s : State) (b : Byte) (v : BitVec 64) : (s.setHist b v).cnt = s.cnt := rfl
@[simp] theorem State.setHist_origCount (s : State) (b : Byte) (v : BitVec 64) : (s.setHist b v).origCount = s.origCount := rfl
@[simp] theorem State.setHist_compCount (s : State) (b : Byte) (v : BitVec 64) : (s.setHist b v).compCount = s.compCount := rfl
@[simp] theorem State.setHist_padding (s : State) (b : Byte) (v : BitVec 64) : (s.setHist b v).padding = s.padding := rfl
@[simp] theorem State.setHist_decO (s : State) (b : Byte) (v : BitVec 64) : (s.setHist b v).decO = s.decO := rfl
@[simp] theorem State.setHist_decC (s : State) (b : Byte) (v : BitVec 64) : (s.setHist b v).decC = s.decC := rfl
@[simp] theorem State.setHist_decP (s : State) (b : Byte) (v : BitVec 64) : (s.setHist b v).decP = s.decP := rfl
@[simp] theorem State.setHist_decEmitted (s : State) (b : Byte) (v : BitVec 64) : (s.setHist b v).decEmitted = s.decEmitted := rfl
@[simp] theorem State.setHist_decConsumed (s : State) (b : Byte) (v : BitVec 64) : (s.setHist b v).decConsumed = s.decConsumed := rfl
@[simp] theorem State.setHist_key (s : State) (b : Byte) (v : BitVec 64) : (s.setHist b v).key = s.key := rfl
@[simp] theorem State.setHist_phase (s : State) (b : Byte) (v : BitVec 64) : (s.setHist b v).phase = s.phase := rfl
@[simp] theorem State.setHist_acc (s : State) (b : Byte) (v : BitVec 64) : (s.setHist b v).acc = s.acc := rfl
@[simp] theorem State.setHist_idx (s : State) (b : Byte) (v : BitVec 64) : (s.setHist b v).idx = s.idx := rfl
@[simp] theorem State.setHist_cntTotal (s : State) (b : Byte) (v : BitVec 64) : (s.setHist b v).cntTotal = s.cntTotal := rfl
@[simp] theorem State.setHist_doneCount (s : State) (b : Byte) (v : BitVec 64) : (s.setHist b v).doneCount = s.doneCount := rfl
@[simp] theorem State.setHist_csym (s : State) (b : Byte) (v : BitVec 64) : (s.setHist b v).csym = s.csym := rfl
@[simp] theorem State.setHist_clen (s : State) (b : Byte) (v : BitVec 64) : (s.setHist b v).clen = s.clen := rfl
@[simp] theorem State.setHist_ccode (s : State) (b : Byte) (v : BitVec 64) : (s.setHist b v).ccode = s.ccode := rfl
@[simp] theorem State.setHist_result0 (s : State) (b : Byte) (v : BitVec 64) : (s.setHist b v).result0 = s.result0 := rfl
@[simp] theorem State.setHist_result1 (s : State) (b : Byte) (v : BitVec 64) : (s.setHist b v).result1 = s.result1 := rfl
@[simp] theorem State.setHist_result2 (s : State) (b : Byte) (v : BitVec 64) : (s.setHist b v).result2 = s.result2 := rfl
@[simp] theorem State.setHist_codew (s : State) (b : Byte) (v : BitVec 64) : (s.setHist b v).codew = s.codew := rfl
@[simp] theorem State.setHist_accesses (s : State) (b : Byte) (v : BitVec 64) : (s.setHist b v).accesses = s.accesses := rfl
@[simp] theorem State.setHist_turns (s : State) (b : Byte) (v : BitVec 64) : (s.setHist b v).turns = s.turns := rfl
@[simp] theorem State.setHist_reads (s : State) (b : Byte) (v : BitVec 64) : (s.setHist b v).reads = s.reads := rfl
@[simp] theorem State.setHist_draws (s : State) (b : Byte) (v : BitVec 64) : (s.setHist b v).draws = s.draws := rfl

/-! ## complete -/

@[simp] theorem State.complete_mode (s : State) : (s.complete).mode = s.mode := rfl
@[simp] theorem State.complete_q (s : State) : (s.complete).q = s.q := rfl
@[simp] theorem State.complete_pend (s : State) : (s.complete).pend = s.pend := rfl
@[simp] theorem State.complete_out (s : State) : (s.complete).out = s.out := rfl
@[simp] theorem State.complete_arg0 (s : State) : (s.complete).arg0 = s.arg0 := rfl
@[simp] theorem State.complete_arg1 (s : State) : (s.complete).arg1 = s.arg1 := rfl
@[simp] theorem State.complete_arg2 (s : State) : (s.complete).arg2 = s.arg2 := rfl
@[simp] theorem State.complete_seq (s : State) : (s.complete).seq = s.seq := rfl
@[simp] theorem State.complete_err (s : State) : (s.complete).err = s.err := rfl
@[simp] theorem State.complete_errInfo (s : State) : (s.complete).errInfo = s.errInfo := rfl
@[simp] theorem State.complete_errSeq (s : State) : (s.complete).errSeq = s.errSeq := rfl
@[simp] theorem State.complete_doneIE (s : State) : (s.complete).doneIE = s.doneIE := rfl
@[simp] theorem State.complete_errIE (s : State) : (s.complete).errIE = s.errIE := rfl
@[simp] theorem State.complete_doneIP (s : State) : (s.complete).doneIP = (s.doneIP || (s.q.isEmpty && s.pend.isEmpty && s.mode != .error)) := rfl
@[simp] theorem State.complete_errIP (s : State) : (s.complete).errIP = s.errIP := rfl
@[simp] theorem State.complete_hist (s : State) : (s.complete).hist = s.hist := rfl
@[simp] theorem State.complete_node (s : State) : (s.complete).node = s.node := rfl
@[simp] theorem State.complete_nodeCount (s : State) : (s.complete).nodeCount = s.nodeCount := rfl
@[simp] theorem State.complete_treeValid (s : State) : (s.complete).treeValid = s.treeValid := rfl
@[simp] theorem State.complete_treeIndex (s : State) : (s.complete).treeIndex = s.treeIndex := rfl
@[simp] theorem State.complete_lut (s : State) : (s.complete).lut = s.lut := rfl
@[simp] theorem State.complete_cbCount (s : State) : (s.complete).cbCount = s.cbCount := rfl
@[simp] theorem State.complete_cbMaxlen (s : State) : (s.complete).cbMaxlen = s.cbMaxlen := rfl
@[simp] theorem State.complete_buf (s : State) : (s.complete).buf = s.buf := rfl
@[simp] theorem State.complete_cnt (s : State) : (s.complete).cnt = s.cnt := rfl
@[simp] theorem State.complete_origCount (s : State) : (s.complete).origCount = s.origCount := rfl
@[simp] theorem State.complete_compCount (s : State) : (s.complete).compCount = s.compCount := rfl
@[simp] theorem State.complete_padding (s : State) : (s.complete).padding = s.padding := rfl
@[simp] theorem State.complete_decO (s : State) : (s.complete).decO = s.decO := rfl
@[simp] theorem State.complete_decC (s : State) : (s.complete).decC = s.decC := rfl
@[simp] theorem State.complete_decP (s : State) : (s.complete).decP = s.decP := rfl
@[simp] theorem State.complete_decEmitted (s : State) : (s.complete).decEmitted = s.decEmitted := rfl
@[simp] theorem State.complete_decConsumed (s : State) : (s.complete).decConsumed = s.decConsumed := rfl
@[simp] theorem State.complete_key (s : State) : (s.complete).key = s.key := rfl
@[simp] theorem State.complete_phase (s : State) : (s.complete).phase = s.phase := rfl
@[simp] theorem State.complete_acc (s : State) : (s.complete).acc = s.acc := rfl
@[simp] theorem State.complete_idx (s : State) : (s.complete).idx = s.idx := rfl
@[simp] theorem State.complete_cntTotal (s : State) : (s.complete).cntTotal = s.cntTotal := rfl
@[simp] theorem State.complete_doneCount (s : State) : (s.complete).doneCount = s.doneCount := rfl
@[simp] theorem State.complete_csym (s : State) : (s.complete).csym = s.csym := rfl
@[simp] theorem State.complete_clen (s : State) : (s.complete).clen = s.clen := rfl
@[simp] theorem State.complete_ccode (s : State) : (s.complete).ccode = s.ccode := rfl
@[simp] theorem State.complete_result0 (s : State) : (s.complete).result0 = s.result0 := rfl
@[simp] theorem State.complete_result1 (s : State) : (s.complete).result1 = s.result1 := rfl
@[simp] theorem State.complete_result2 (s : State) : (s.complete).result2 = s.result2 := rfl
@[simp] theorem State.complete_codew (s : State) : (s.complete).codew = s.codew := rfl
@[simp] theorem State.complete_accesses (s : State) : (s.complete).accesses = s.accesses := rfl
@[simp] theorem State.complete_turns (s : State) : (s.complete).turns = s.turns := rfl
@[simp] theorem State.complete_reads (s : State) : (s.complete).reads = s.reads := rfl
@[simp] theorem State.complete_draws (s : State) : (s.complete).draws = s.draws := rfl

/-! ## clearCodebook -/

@[simp] theorem State.clearCodebook_mode (s : State) : (s.clearCodebook).mode = s.mode := rfl
@[simp] theorem State.clearCodebook_q (s : State) : (s.clearCodebook).q = s.q := rfl
@[simp] theorem State.clearCodebook_pend (s : State) : (s.clearCodebook).pend = s.pend := rfl
@[simp] theorem State.clearCodebook_out (s : State) : (s.clearCodebook).out = s.out := rfl
@[simp] theorem State.clearCodebook_arg0 (s : State) : (s.clearCodebook).arg0 = s.arg0 := rfl
@[simp] theorem State.clearCodebook_arg1 (s : State) : (s.clearCodebook).arg1 = s.arg1 := rfl
@[simp] theorem State.clearCodebook_arg2 (s : State) : (s.clearCodebook).arg2 = s.arg2 := rfl
@[simp] theorem State.clearCodebook_seq (s : State) : (s.clearCodebook).seq = s.seq := rfl
@[simp] theorem State.clearCodebook_err (s : State) : (s.clearCodebook).err = s.err := rfl
@[simp] theorem State.clearCodebook_errInfo (s : State) : (s.clearCodebook).errInfo = s.errInfo := rfl
@[simp] theorem State.clearCodebook_errSeq (s : State) : (s.clearCodebook).errSeq = s.errSeq := rfl
@[simp] theorem State.clearCodebook_doneIE (s : State) : (s.clearCodebook).doneIE = s.doneIE := rfl
@[simp] theorem State.clearCodebook_errIE (s : State) : (s.clearCodebook).errIE = s.errIE := rfl
@[simp] theorem State.clearCodebook_doneIP (s : State) : (s.clearCodebook).doneIP = s.doneIP := rfl
@[simp] theorem State.clearCodebook_errIP (s : State) : (s.clearCodebook).errIP = s.errIP := rfl
@[simp] theorem State.clearCodebook_hist (s : State) : (s.clearCodebook).hist = s.hist := rfl
@[simp] theorem State.clearCodebook_node (s : State) : (s.clearCodebook).node = [] := rfl
@[simp] theorem State.clearCodebook_nodeCount (s : State) : (s.clearCodebook).nodeCount = 0 := rfl
@[simp] theorem State.clearCodebook_treeValid (s : State) : (s.clearCodebook).treeValid = false := rfl
@[simp] theorem State.clearCodebook_treeIndex (s : State) : (s.clearCodebook).treeIndex = 0 := rfl
@[simp] theorem State.clearCodebook_lut (s : State) : (s.clearCodebook).lut = [] := rfl
@[simp] theorem State.clearCodebook_cbCount (s : State) : (s.clearCodebook).cbCount = 0 := rfl
@[simp] theorem State.clearCodebook_cbMaxlen (s : State) : (s.clearCodebook).cbMaxlen = 0 := rfl
@[simp] theorem State.clearCodebook_buf (s : State) : (s.clearCodebook).buf = s.buf := rfl
@[simp] theorem State.clearCodebook_cnt (s : State) : (s.clearCodebook).cnt = s.cnt := rfl
@[simp] theorem State.clearCodebook_origCount (s : State) : (s.clearCodebook).origCount = s.origCount := rfl
@[simp] theorem State.clearCodebook_compCount (s : State) : (s.clearCodebook).compCount = s.compCount := rfl
@[simp] theorem State.clearCodebook_padding (s : State) : (s.clearCodebook).padding = s.padding := rfl
@[simp] theorem State.clearCodebook_decO (s : State) : (s.clearCodebook).decO = s.decO := rfl
@[simp] theorem State.clearCodebook_decC (s : State) : (s.clearCodebook).decC = s.decC := rfl
@[simp] theorem State.clearCodebook_decP (s : State) : (s.clearCodebook).decP = s.decP := rfl
@[simp] theorem State.clearCodebook_decEmitted (s : State) : (s.clearCodebook).decEmitted = s.decEmitted := rfl
@[simp] theorem State.clearCodebook_decConsumed (s : State) : (s.clearCodebook).decConsumed = s.decConsumed := rfl
@[simp] theorem State.clearCodebook_key (s : State) : (s.clearCodebook).key = s.key := rfl
@[simp] theorem State.clearCodebook_phase (s : State) : (s.clearCodebook).phase = s.phase := rfl
@[simp] theorem State.clearCodebook_acc (s : State) : (s.clearCodebook).acc = s.acc := rfl
@[simp] theorem State.clearCodebook_idx (s : State) : (s.clearCodebook).idx = s.idx := rfl
@[simp] theorem State.clearCodebook_cntTotal (s : State) : (s.clearCodebook).cntTotal = s.cntTotal := rfl
@[simp] theorem State.clearCodebook_doneCount (s : State) : (s.clearCodebook).doneCount = s.doneCount := rfl
@[simp] theorem State.clearCodebook_csym (s : State) : (s.clearCodebook).csym = s.csym := rfl
@[simp] theorem State.clearCodebook_clen (s : State) : (s.clearCodebook).clen = s.clen := rfl
@[simp] theorem State.clearCodebook_ccode (s : State) : (s.clearCodebook).ccode = s.ccode := rfl
@[simp] theorem State.clearCodebook_result0 (s : State) : (s.clearCodebook).result0 = s.result0 := rfl
@[simp] theorem State.clearCodebook_result1 (s : State) : (s.clearCodebook).result1 = s.result1 := rfl
@[simp] theorem State.clearCodebook_result2 (s : State) : (s.clearCodebook).result2 = s.result2 := rfl
@[simp] theorem State.clearCodebook_codew (s : State) : (s.clearCodebook).codew = s.codew := rfl
@[simp] theorem State.clearCodebook_accesses (s : State) : (s.clearCodebook).accesses = s.accesses := rfl
@[simp] theorem State.clearCodebook_turns (s : State) : (s.clearCodebook).turns = s.turns := rfl
@[simp] theorem State.clearCodebook_reads (s : State) : (s.clearCodebook).reads = s.reads := rfl
@[simp] theorem State.clearCodebook_draws (s : State) : (s.clearCodebook).draws = s.draws := rfl

/-! ## clearParser -/

@[simp] theorem State.clearParser_mode (s : State) : (s.clearParser).mode = s.mode := rfl
@[simp] theorem State.clearParser_q (s : State) : (s.clearParser).q = s.q := rfl
@[simp] theorem State.clearParser_pend (s : State) : (s.clearParser).pend = s.pend := rfl
@[simp] theorem State.clearParser_out (s : State) : (s.clearParser).out = s.out := rfl
@[simp] theorem State.clearParser_arg0 (s : State) : (s.clearParser).arg0 = s.arg0 := rfl
@[simp] theorem State.clearParser_arg1 (s : State) : (s.clearParser).arg1 = s.arg1 := rfl
@[simp] theorem State.clearParser_arg2 (s : State) : (s.clearParser).arg2 = s.arg2 := rfl
@[simp] theorem State.clearParser_seq (s : State) : (s.clearParser).seq = s.seq := rfl
@[simp] theorem State.clearParser_err (s : State) : (s.clearParser).err = s.err := rfl
@[simp] theorem State.clearParser_errInfo (s : State) : (s.clearParser).errInfo = s.errInfo := rfl
@[simp] theorem State.clearParser_errSeq (s : State) : (s.clearParser).errSeq = s.errSeq := rfl
@[simp] theorem State.clearParser_doneIE (s : State) : (s.clearParser).doneIE = s.doneIE := rfl
@[simp] theorem State.clearParser_errIE (s : State) : (s.clearParser).errIE = s.errIE := rfl
@[simp] theorem State.clearParser_doneIP (s : State) : (s.clearParser).doneIP = s.doneIP := rfl
@[simp] theorem State.clearParser_errIP (s : State) : (s.clearParser).errIP = s.errIP := rfl
@[simp] theorem State.clearParser_hist (s : State) : (s.clearParser).hist = s.hist := rfl
@[simp] theorem State.clearParser_node (s : State) : (s.clearParser).node = s.node := rfl
@[simp] theorem State.clearParser_nodeCount (s : State) : (s.clearParser).nodeCount = s.nodeCount := rfl
@[simp] theorem State.clearParser_treeValid (s : State) : (s.clearParser).treeValid = s.treeValid := rfl
@[simp] theorem State.clearParser_treeIndex (s : State) : (s.clearParser).treeIndex = s.treeIndex := rfl
@[simp] theorem State.clearParser_lut (s : State) : (s.clearParser).lut = s.lut := rfl
@[simp] theorem State.clearParser_cbCount (s : State) : (s.clearParser).cbCount = s.cbCount := rfl
@[simp] theorem State.clearParser_cbMaxlen (s : State) : (s.clearParser).cbMaxlen = s.cbMaxlen := rfl
@[simp] theorem State.clearParser_buf (s : State) : (s.clearParser).buf = s.buf := rfl
@[simp] theorem State.clearParser_cnt (s : State) : (s.clearParser).cnt = s.cnt := rfl
@[simp] theorem State.clearParser_origCount (s : State) : (s.clearParser).origCount = s.origCount := rfl
@[simp] theorem State.clearParser_compCount (s : State) : (s.clearParser).compCount = s.compCount := rfl
@[simp] theorem State.clearParser_padding (s : State) : (s.clearParser).padding = s.padding := rfl
@[simp] theorem State.clearParser_decO (s : State) : (s.clearParser).decO = s.decO := rfl
@[simp] theorem State.clearParser_decC (s : State) : (s.clearParser).decC = s.decC := rfl
@[simp] theorem State.clearParser_decP (s : State) : (s.clearParser).decP = s.decP := rfl
@[simp] theorem State.clearParser_decEmitted (s : State) : (s.clearParser).decEmitted = s.decEmitted := rfl
@[simp] theorem State.clearParser_decConsumed (s : State) : (s.clearParser).decConsumed = s.decConsumed := rfl
@[simp] theorem State.clearParser_key (s : State) : (s.clearParser).key = s.key := rfl
@[simp] theorem State.clearParser_phase (s : State) : (s.clearParser).phase = .count := rfl
@[simp] theorem State.clearParser_acc (s : State) : (s.clearParser).acc = 0 := rfl
@[simp] theorem State.clearParser_idx (s : State) : (s.clearParser).idx = 0 := rfl
@[simp] theorem State.clearParser_cntTotal (s : State) : (s.clearParser).cntTotal = 0 := rfl
@[simp] theorem State.clearParser_doneCount (s : State) : (s.clearParser).doneCount = 0 := rfl
@[simp] theorem State.clearParser_csym (s : State) : (s.clearParser).csym = 0 := rfl
@[simp] theorem State.clearParser_clen (s : State) : (s.clearParser).clen = 0 := rfl
@[simp] theorem State.clearParser_ccode (s : State) : (s.clearParser).ccode = [] := rfl
@[simp] theorem State.clearParser_result0 (s : State) : (s.clearParser).result0 = s.result0 := rfl
@[simp] theorem State.clearParser_result1 (s : State) : (s.clearParser).result1 = s.result1 := rfl
@[simp] theorem State.clearParser_result2 (s : State) : (s.clearParser).result2 = s.result2 := rfl
@[simp] theorem State.clearParser_codew (s : State) : (s.clearParser).codew = s.codew := rfl
@[simp] theorem State.clearParser_accesses (s : State) : (s.clearParser).accesses = s.accesses := rfl
@[simp] theorem State.clearParser_turns (s : State) : (s.clearParser).turns = s.turns := rfl
@[simp] theorem State.clearParser_reads (s : State) : (s.clearParser).reads = s.reads := rfl
@[simp] theorem State.clearParser_draws (s : State) : (s.clearParser).draws = s.draws := rfl

/-! ## The named updates of an error, in terms of errorEntry -/

@[simp] theorem State.raise_eq (s : State) (c : Cause) (info : Word) : s.raise c info = s.errorEntry c info (s.seq - 1) := rfl

@[simp] theorem State.raiseHost_eq (s : State) (c : Cause) (info : Word) : s.raiseHost c info = s.errorEntry c info s.seq := rfl

/-- Error entry leaves exactly the state that claims describe. -/
theorem State.errorEntry_eq_errorState (s : State) (c : Cause) (info eseq : Word) :
    s.errorEntry c info eseq = errorState s c.errWord info eseq := rfl

end Sys2Proof.Machine
end

