-- ==== Sys2Proof/Laws/Ops.lean ====
section
/-! SUPPORT. What each shared operation can do, said once: the mode check, cancellation and the return from error, the bit writer, the
writes to the internal memories, and the canonical form after each. -/

namespace Sys2Proof.Machine

/-! ## The mode check -/

@[simp] theorem inMode_of_mode {m : Mode} {s : State} (h : s.mode = m) (i : Instr) (f : State → State) : inMode m i s f = f s :=
  if_pos h

theorem inMode_of_ne {m : Mode} {s : State} (h : s.mode ≠ m) (i : Instr) (f : State → State) :
    inMode m i s f = s.errorEntry .illegalInMode i.value (s.seq - 1) :=
  if_neg h

/-- A command has its effect in its mode, or raises. -/
theorem inMode_cases (m : Mode) (i : Instr) (s : State) (f : State → State) :
    (s.mode = m ∧ inMode m i s f = f s) ∨
      (s.mode ≠ m ∧ inMode m i s f = s.errorEntry .illegalInMode i.value (s.seq - 1)) := by
  by_cases h : s.mode = m
  · exact .inl ⟨h, inMode_of_mode h i f⟩
  · exact .inr ⟨h, inMode_of_ne h i f⟩

/-! ## Cancellation and the return from error -/

theorem State.abort_of_error {s : State} (h : s.mode = .error) : s.abort = s := if_pos h

theorem State.abort_of_ne {s : State} (h : s.mode ≠ .error) : s.abort = s.errorEntry .cancelled 0 s.seq := if_neg h

theorem State.clearErr_of_error {s : State} (h : s.mode = .error) :
    s.clearErr = { s with mode := .idle, err := 0, errInfo := 0, errSeq := 0 } := if_pos h

theorem State.clearErr_of_ne {s : State} (h : s.mode ≠ .error) : s.clearErr = s := if_neg h

/-- No cause writes 0 to ERR. -/
theorem Cause.errWord_ne_zero (c : Cause) : c.errWord ≠ 0 := by cases c <;> decide

/-! ## Queue port writes -/

theorem State.portWrite_of_error {s : State} (h : s.mode = .error) (p : Port) (v : Word) : s.portWrite p v = s := if_pos h

theorem State.portWrite_of_full {s : State} (h : s.mode ≠ .error) (hq : s.q.length = Config.qDepth) (p : Port) (v : Word) :
    s.portWrite p v = s.errorEntry .queueOverflow v s.seq := by
  rw [State.portWrite, if_neg h, if_pos hq, State.raiseHost_eq]

theorem State.portWrite_of_room {s : State} (h : s.mode ≠ .error) (hq : s.q.length ≠ Config.qDepth) (p : Port) (v : Word) :
    s.portWrite p v = s.enqueue { port := p, value := v } := by
  rw [State.portWrite, if_neg h, if_neg hq]

/-! ## The bit writer -/

/-- One BitPut pushes a byte exactly when it brings the eighth bit. -/
theorem State.bitPut_cases (s : State) (b : Bool) :
    (s.cnt.toNat = 7 ∧
      s.bitPut b = { s with
        pend := s.pend ++ [(s.buf <<< 1) ||| (if b then 1 else 0)], compCount := s.compCount + 1, buf := 0, cnt := 0 }) ∨
    (s.cnt.toNat < 7 ∧ s.bitPut b = { s with buf := (s.buf <<< 1) ||| (if b then 1 else 0), cnt := s.cnt + 1 }) := by
  have := s.cnt.isLt
  unfold State.bitPut
  by_cases h : s.cnt.toNat + 1 = 8
  · exact .inl ⟨by omega, if_pos h⟩
  · exact .inr ⟨by omega, if_neg h⟩

@[simp] theorem State.bitPuts_nil (s : State) : s.bitPuts [] = s := rfl

@[simp] theorem State.bitPuts_cons (s : State) (b : Bool) (c : Bits) : s.bitPuts (b :: c) = (s.bitPut b).bitPuts c := rfl

/-- BitPut of a code changes the bit writer's registers and PEND only. -/
theorem State.bitPuts_eq (s : State) (c : Bits) :
    s.bitPuts c = { s with
      pend := (s.bitPuts c).pend, compCount := (s.bitPuts c).compCount, buf := (s.bitPuts c).buf, cnt := (s.bitPuts c).cnt } := by
  induction c generalizing s with
  | nil => rfl
  | cons b c ih =>
    rw [State.bitPuts_cons, ih]
    rcases s.bitPut_cases b with ⟨-, h⟩ | ⟨-, h⟩ <;> rw [h]

/-- BitFlush pushes the partial byte, if there is one, and empties the buffer. -/
theorem State.bitFlush_cases (s : State) :
    (s.cnt = 0 ∧ s.bitFlush = { s with buf := 0, cnt := 0 }) ∨
    (s.cnt ≠ 0 ∧
      s.bitFlush = { s with
        pend := s.pend ++ [s.buf <<< (8 - s.cnt.toNat)], compCount := s.compCount + 1, buf := 0, cnt := 0 }) := by
  unfold State.bitFlush
  by_cases h : s.cnt = 0
  · exact .inl ⟨h, by rw [if_neg (by simp [h])]⟩
  · refine .inr ⟨h, if_pos ?_⟩
    have : s.cnt.toNat ≠ 0 := fun h0 => h (BitVec.eq_of_toNat_eq (by simpa using h0))
    omega

/-! ## Writes to the internal memories keep the canonical form -/

theorem State.setHist_wf {s : State} (h : Memory.wf 0 256 s.hist = true) (b : Byte) (v : BitVec 64) :
    Memory.wf 0 256 (s.setHist b v).hist = true :=
  Memory.write_wf h b.isLt

theorem State.histAt_setHist {s : State} (h : Memory.wf 0 256 s.hist = true) (b c : Byte) (v : BitVec 64) :
    (s.setHist b v).histAt c = if c = b then v else s.histAt c := by
  rw [State.histAt, State.setHist_hist, Memory.read_write h]
  by_cases hc : c = b
  · simp [hc]
  · rw [if_neg hc, if_neg fun h => hc (BitVec.eq_of_toNat_eq h)]
    rfl

/-- Reset memories are canonical. -/
theorem reset_memoriesCanonical_hist : Memory.wf 0 256 State.reset.hist = true := rfl

theorem walk_wf (n : Nat) (node : Memory Node) (i : Nat) (p : Bits) {lut : Memory LutEntry}
    (h : Memory.wf LutEntry.absent 256 lut = true) : Memory.wf LutEntry.absent 256 (walk n node i p lut) = true := by
  induction n generalizing i p lut with
  | zero => exact h
  | succ n ih =>
    rw [walk]
    split
    · exact Memory.write_wf h (BitVec.isLt _)
    · exact ih _ _ (ih _ _ h)

end Sys2Proof.Machine
end

