-- ==== Sys2Proof/Laws/PerInstr.lean ====
section
/-! SUPPORT. Facts about every instruction as syntax. Family RowMatch: the word an instruction is encoded as has the fixed bits of its
row in opcode_table.json. -/

namespace Sys2Proof.Laws.RowMatch

/-- The fixed bits of a row: a 35-bit entry whose bits from `free` up are those of `bits`, or a CTRL word with bit `k` set. -/
inductive Row where
  | entry (bits free : Nat)
  | ctrl (k : Nat)

/-- The row's match value, and its lowest fixed bit by its mask. -/
def row : Instr → Row
  | .nop => .entry 0x000000000 0
  | .histClear => .entry 0x010000000 0
  | .histBegin => .entry 0x011000000 0
  | .histEnd => .entry 0x012000000 0
  | .freqSet _ => .entry 0x013000000 8
  | .freqGet _ => .entry 0x014000000 8
  | .build => .entry 0x020000000 0
  | .nodeGet _ => .entry 0x021000000 9
  | .cbClear => .entry 0x030000000 0
  | .cbGet _ => .entry 0x031000000 8
  | .cbEmit => .entry 0x032000000 0
  | .cbLoad => .entry 0x033000000 0
  | .encBegin => .entry 0x040000000 0
  | .encFlush => .entry 0x041000000 0
  | .decBegin => .entry 0x050000000 0
  | .data _ => .entry 0x100000000 8
  | .arg0 _ => .entry 0x200000000 32
  | .arg1 _ => .entry 0x300000000 32
  | .arg2 _ => .entry 0x400000000 32
  | .ctrlSoftReset => .ctrl 0
  | .ctrlAbort _ => .ctrl 1
  | .ctrlClearErr => .ctrl 2

/-- A word has the fixed bits of a row. -/
def Matches : Row → Encoded → Bool
  | .entry bits free, .entry e => decide (e.toBits.toNat / 2 ^ free = bits / 2 ^ free)
  | .ctrl k, .ctrl w => w.getLsbD k
  | .entry _ _, .ctrl _ => false
  | .ctrl _, .entry _ => false

/-- The instruction's word has the fixed bits of its row. -/
def Statement (i : Instr) : Prop := Matches (row i) (encode i) = true

/-- An entry as one number is PORT x 2^32 + VALUE (R70). -/
theorem toBits_toNat (e : Entry) : e.toBits.toNat = e.port.number.toNat * 2 ^ 32 + e.value.toNat := by
  rw [Entry.toBits, BitVec.toNat_append, Nat.shiftLeft_eq, Nat.mul_comm, Nat.two_pow_add_eq_or_of_lt e.value.isLt, Nat.mul_comm]

/-- Leading zeros do not change a number. -/
theorem zero_append_toNat {m n : Nat} (v : BitVec n) : ((0 : BitVec m) ++ v).toNat = v.toNat := by
  rw [BitVec.toNat_append]
  simp

/-- A form SYM8 word is its opcode and its symbol. -/
theorem cmdSymWord_toNat (op s : Byte) : (cmdSymWord op s).toNat = op.toNat * 2 ^ 24 + s.toNat := by
  rw [cmdSymWord, BitVec.toNat_append, Nat.shiftLeft_eq, Nat.mul_comm, ← Nat.two_pow_add_eq_or_of_lt (BitVec.isLt _)]
  rw [zero_append_toNat, Nat.mul_comm]

/-- A form IDX9 word is its opcode and its index. -/
theorem cmdIdxWord_toNat (op : Byte) (i : BitVec 9) : (cmdIdxWord op i).toNat = op.toNat * 2 ^ 24 + i.toNat := by
  rw [cmdIdxWord, BitVec.toNat_append, Nat.shiftLeft_eq, Nat.mul_comm, ← Nat.two_pow_add_eq_or_of_lt (BitVec.isLt _)]
  rw [zero_append_toNat, Nat.mul_comm]

theorem nop : Statement .nop := by unfold Statement; decide
theorem histClear : Statement .histClear := by unfold Statement; decide
theorem histBegin : Statement .histBegin := by unfold Statement; decide
theorem histEnd : Statement .histEnd := by unfold Statement; decide
theorem build : Statement .build := by unfold Statement; decide
theorem cbClear : Statement .cbClear := by unfold Statement; decide
theorem cbEmit : Statement .cbEmit := by unfold Statement; decide
theorem cbLoad : Statement .cbLoad := by unfold Statement; decide
theorem encBegin : Statement .encBegin := by unfold Statement; decide
theorem encFlush : Statement .encFlush := by unfold Statement; decide
theorem decBegin : Statement .decBegin := by unfold Statement; decide

theorem freqSet (s : Byte) : Statement (.freqSet s) := by
  have := s.isLt
  simp only [Statement, row, encode, Instr.port, Instr.value, Matches, toBits_toNat, cmdSymWord_toNat, Port.number]
  rw [decide_eq_true_eq]
  simp
  omega

theorem freqGet (s : Byte) : Statement (.freqGet s) := by
  have := s.isLt
  simp only [Statement, row, encode, Instr.port, Instr.value, Matches, toBits_toNat, cmdSymWord_toNat, Port.number]
  rw [decide_eq_true_eq]
  simp
  omega

theorem cbGet (s : Byte) : Statement (.cbGet s) := by
  have := s.isLt
  simp only [Statement, row, encode, Instr.port, Instr.value, Matches, toBits_toNat, cmdSymWord_toNat, Port.number]
  rw [decide_eq_true_eq]
  simp
  omega

theorem nodeGet (i : BitVec 9) : Statement (.nodeGet i) := by
  have := i.isLt
  simp only [Statement, row, encode, Instr.port, Instr.value, Matches, toBits_toNat, cmdIdxWord_toNat, Port.number]
  rw [decide_eq_true_eq]
  simp
  omega

theorem data (b : Byte) : Statement (.data b) := by
  have := b.isLt
  simp only [Statement, row, encode, Instr.port, Instr.value, Matches, toBits_toNat, zero_append_toNat, Port.number, decide_eq_true_eq]
  simp
  omega

theorem arg0 (v : Word) : Statement (.arg0 v) := by
  have := v.isLt
  simp only [Statement, row, encode, Instr.port, Instr.value, Matches, toBits_toNat, Port.number, decide_eq_true_eq]
  simp
  omega

theorem arg1 (v : Word) : Statement (.arg1 v) := by
  have := v.isLt
  simp only [Statement, row, encode, Instr.port, Instr.value, Matches, toBits_toNat, Port.number, decide_eq_true_eq]
  simp
  omega

theorem arg2 (v : Word) : Statement (.arg2 v) := by
  have := v.isLt
  simp only [Statement, row, encode, Instr.port, Instr.value, Matches, toBits_toNat, Port.number, decide_eq_true_eq]
  simp
  omega

theorem ctrlSoftReset : Statement .ctrlSoftReset := by unfold Statement; decide
theorem ctrlAbort (clear : Bool) : Statement (.ctrlAbort clear) := by cases clear <;> (unfold Statement; decide)
theorem ctrlClearErr : Statement .ctrlClearErr := by unfold Statement; decide

end Sys2Proof.Laws.RowMatch
end

