-- ==== Sys2Proof/Laws/Step.lean ====
section
/-! SUPPORT. What a step can do, said once: the inversion of the block's move, of the host's move and of a step. -/

namespace Sys2Proof.Machine

@[simp] theorem onNext_next (f : State → State) (s : State) : onNext f (.next s) = .next (f s) := rfl

theorem onNext_eq_next {f : State → State} {o : Host.Outcome State Fault Refusal} {t : State} (h : onNext f o = .next t) :
    ∃ s, o = .next s ∧ t = f s := by
  cases o with
  | next s => exact ⟨s, rfl, (Host.Outcome.next.inj h).symm⟩
  | fault r => exact nomatch h
  | refused r => exact nomatch h

/-- The block's move: one execute step, one drain step, or nothing. -/
theorem blockMove_cases {s t : State} (h : blockMove s = .next t) :
    (∃ e rest u, s.q = e :: rest ∧ s.pend = [] ∧ s.mode ≠ .error ∧ dispatchEntry e s.dequeue = .next u ∧ t = u.complete) ∨
    (s.pend ≠ [] ∧ s.out.length < Config.outDepth ∧ t = s.drainByte.complete) ∨
    (s.canMove = false ∧ t = s) := by
  unfold blockMove at h
  split at h
  · rename_i hx
    simp only [State.canExecute, Bool.and_eq_true, bne_iff_ne, ne_eq, List.isEmpty_iff, Bool.not_eq_true'] at hx
    unfold executeStep at h
    split at h
    · rename_i hq; simp [hq] at hx
    · rename_i e rest hq
      obtain ⟨u, hu, rfl⟩ := onNext_eq_next h
      exact .inl ⟨e, rest, u, hq, hx.1.2, hx.1.1, hu, rfl⟩
  · split at h
    · rename_i hd
      simp only [State.canDrain, Bool.and_eq_true, Bool.not_eq_true', decide_eq_true_eq] at hd
      refine .inr (.inl ⟨?_, hd.2, (Host.Outcome.next.inj h).symm⟩)
      intro hp
      simp [hp] at hd
    · rename_i hx hd
      exact .inr (.inr ⟨by simp [State.canMove, hx, hd], (Host.Outcome.next.inj h).symm⟩)

/-- An entry that the block executes has the effect of its instruction, or raises the error of its rejection. -/
theorem dispatchEntry_cases {e : Entry} {s t : State} (h : dispatchEntry e s = .next t) :
    (∃ i, decodeEntry e = .ok i ∧ exec i s = .next t) ∨
    (∃ r, decodeEntry e = .error r ∧ t = s.errorEntry (rejectCause r) e.value (s.seq - 1)) := by
  unfold dispatchEntry at h
  split at h
  · rename_i i hi; exact .inl ⟨i, hi, h⟩
  · rename_i r hr; exact .inr ⟨r, hr, (Host.Outcome.next.inj h).symm⟩

/-- The host's move: nothing, a read, a CTRL write, or a write to another register, each at a defined offset. -/
theorem hostMove_cases {s t : State} (h : hostMove s = .next t) :
    (s.accesses = [] ∧ t = s) ∨
    (∃ a rest, s.accesses = a :: rest ∧ a.wellFormed = true ∧
      ((a.kind = .read ∧ t = ({ s with accesses := rest } : State).hostRead a.offset.toNat) ∨
       (∃ w, a.kind = .write w ∧ regAt a.offset.toNat = .ctrl ∧ ctrlWrite w { s with accesses := rest } = .next t) ∨
       (∃ w, a.kind = .write w ∧ regAt a.offset.toNat ≠ .ctrl ∧
          t = ({ s with accesses := rest } : State).regWrite (regAt a.offset.toNat) w))) := by
  unfold hostMove at h
  split at h
  · rename_i ha; exact .inl ⟨ha, (Host.Outcome.next.inj h).symm⟩
  · rename_i a rest ha
    unfold hostAccess at h
    split at h
    · exact nomatch h
    · split at h
      · exact nomatch h
      · rename_i h1 h2
        refine .inr ⟨a, rest, ha, by simpa [Access.wellFormed, and_assoc] using And.intro h1 h2, ?_⟩
        unfold windowAccess at h
        split at h
        · rename_i hk; exact .inl ⟨hk, (Host.Outcome.next.inj h).symm⟩
        · rename_i w hk
          split at h
          · rename_i hr; exact .inr (.inl ⟨w, hk, hr, h⟩)
          · rename_i hr; exact .inr (.inr ⟨w, hk, hr, (Host.Outcome.next.inj h).symm⟩)

/-- A step is one move of the agent whose turn it is. -/
theorem step_cases {s t : State} (h : step s = .next t) :
    (s.nextTurn = .block ∧ blockMove { s with turns := s.turns.tail } = .next t) ∨
    (s.nextTurn = .host ∧ hostMove { s with turns := s.turns.tail } = .next t) ∨
    (s.nextTurn = .hardReset ∧ t = ({ s with turns := s.turns.tail } : State).toReset) := by
  unfold step move at h
  split at h
  · rename_i ht; exact .inl ⟨ht, h⟩
  · rename_i ht; exact .inr (.inl ⟨ht, h⟩)
  · rename_i ht; exact .inr (.inr ⟨ht, (Host.Outcome.next.inj h).symm⟩)

/-- A CTRL write runs its action, or does nothing. -/
theorem ctrlWrite_cases {w : Word} {s t : State} (h : ctrlWrite w s = .next t) :
    (∃ i, decodeCtrl w = .ok i ∧ exec i s = .next t) ∨ ((∃ r, decodeCtrl w = .error r) ∧ t = s) := by
  unfold ctrlWrite at h
  split at h
  · rename_i i hi; exact .inl ⟨i, hi, h⟩
  · rename_i r hr; exact .inr ⟨⟨r, hr⟩, (Host.Outcome.next.inj h).symm⟩

end Sys2Proof.Machine
end

