-- ==== Sys2Proof/Tests/Slice0.lean ====
section
/-! SUPPORT. Tests, their expected values taken from the spec (95_test_vectors.md and the examples of the rules), and after them a witness
for the hypotheses of each statement. -/

namespace Sys2Proof.Tests

open Sys2Proof.Machine

/-! ## Ill-formed terms -/

/-- R57: an access of 16 bits fails the width check. -/
theorem test_narrow_access_refused :
    Access.wordWide { kind := .read, offset := 0x014, width := 16 } = false ∧
    Access.wellFormed { kind := .read, offset := 0x014, width := 16 } = false := by decide

/-- R57: an access at offset 0x016 fails the alignment check. -/
theorem test_misaligned_access_refused :
    Access.aligned { kind := .write 0, offset := 0x016, width := 32 } = false ∧
    Access.wellFormed { kind := .write 0, offset := 0x016, width := 32 } = false := by decide

/-- R52: accesses just below and just above the window fail the window check. -/
theorem test_access_outside_window_refused :
    Access.inWindow { kind := .read, offset := -4, width := 32 } = false ∧
    Access.inWindow { kind := .read, offset := 0x100, width := 32 } = false ∧
    Access.wellFormed { kind := .read, offset := 0x100, width := 32 } = false := by decide

/-- R52, R57: the first and the last word of the window are well-formed. -/
theorem test_window_edges_accepted :
    Access.wellFormed { kind := .read, offset := 0x000, width := 32 } = true ∧
    Access.wellFormed { kind := .read, offset := 0x0FC, width := 32 } = true := by decide

/-- R73, R74: an entry with a 1 in a bit no form uses fails the reserved-bit check. -/
theorem test_reserved_bits_refused :
    Entry.reservedClear { port := .cmd, value := 0x21000200 } = false ∧
    Entry.reservedClear { port := .data, value := 0x00000100 } = false ∧
    Entry.reservedClear { port := .cmd, value := 0x210001FF } = true := by decide

/-- R76: CTRL actions are not queued. -/
theorem test_ctrl_is_not_queued : Instr.queued .ctrlSoftReset = false ∧ Instr.queued .nop = true := by decide

/-! ## Words written out from R70-R77 and the programs of 95_test_vectors.md section 3 -/

/-- PORT 0, OPCODE of R77, form NONE; the words of P1 and P2. -/
theorem test_decode_form_none :
    [0x000000000, 0x010000000, 0x011000000, 0x012000000, 0x020000000, 0x030000000, 0x032000000, 0x033000000, 0x040000000,
      0x041000000, 0x050000000].map (decodeTableWord 40) =
    [some .nop, some .histClear, some .histBegin, some .histEnd, some .build, some .cbClear, some .cbEmit, some .cbLoad,
      some .encBegin, some .encFlush, some .decBegin] := by decide

/-- PORT 0, forms SYM8 and IDX9; the words of P4 and the largest index. -/
theorem test_decode_forms_with_operand :
    [0x0130000FF, 0x0140000FF, 0x031000080, 0x021000004, 0x0210001FF].map (decodeTableWord 40) =
    [some (.freqSet 0xFF), some (.freqGet 0xFF), some (.cbGet 0x80), some (.nodeGet 4), some (.nodeGet 511)] := by decide

/-- PORT 1 to 4; the words of P2 and P4. -/
theorem test_decode_data_and_operands :
    [0x1000000DC, 0x20000000B, 0x3FFFFFFFF, 0x400000001].map (decodeTableWord 40) =
    [some (.data 0xDC), some (.arg0 11), some (.arg1 0xFFFFFFFF), some (.arg2 1)] := by decide

/-- CTRL words by R93: bit 0 hides the others, [31:3] are ignored. -/
theorem test_decode_ctrl :
    [1, 2, 4, 5, 6, 0x80000004].map (decodeTableWord 32) =
    [some .ctrlSoftReset, some (.ctrlAbort false), some .ctrlClearErr, some .ctrlSoftReset, some (.ctrlAbort true),
      some .ctrlClearErr] := by decide

/-- R80 (a), (b), (e), 95_test_vectors.md 2.8: illegal opcodes, reserved bits, the opcode check first, ports 5 to 7. -/
theorem test_decode_rejects :
    [0x01000000, 0xFF000000, 0x15000000, 0x51000000, 0x01000001, 0x20000001, 0x12000001, 0x14000100, 0x21000200].map decodeCmd =
      [.error .illegalOpcode, .error .illegalOpcode, .error .illegalOpcode, .error .illegalOpcode, .error .illegalOpcode,
        .error .reservedField, .error .reservedField, .error .reservedField, .error .reservedField] ∧
    decodeData 0x100 = .error .reservedField ∧ decodeBits 0x500000000 = .error .unreachablePort ∧
    decodeBits 0x7FFFFFFFF = .error .unreachablePort ∧ decodeCtrl 0x80000000 = .error .noAction := by
  refine ⟨?_, ?_, ?_, ?_, ?_⟩ <;> rfl

/-! ## One step -/

/-- The state a step leads to. -/
def after (o : Host.Outcome State Fault Refusal) : State :=
  match o with
  | .next s => s
  | .fault _ => State.reset
  | .refused _ => State.reset

/-- One step that runs an entry, given as its 35 bits. -/
def ran (s : State) (w : Nat) : State := after (step (s.withFetchWord 40 w))

/-- One step that writes a word to CTRL. -/
def ctrlled (s : State) (w : Nat) : State := after (step (s.withFetchWord 32 w))

/-- An absent host access list and no schedule: one host access at an offset of the window. -/
def accessed (s : State) (k : AccessKind) (o : Nat) : State :=
  after (hostAccess { kind := k, offset := (o : Int), width := 32 } s)

/-- The error registers and MODE: what a vector's ERR, INFO and ESEQ give. -/
def errors (s : State) : Mode × Word × Word × Word := (s.mode, s.err, s.errInfo, s.errSeq)

/-- LUT 'A' "0", 'B' "110". -/
def book : Memory LutEntry := [(0x41, ⟨true, 1, [false]⟩), (0x42, ⟨true, 3, [true, true, false]⟩)]

/-- R91, its example. -/
theorem test_nop : let t := ran { State.reset with seq := 5 } 0x000000000
    (t.seq, t.doneIP, t.mode) = (6, true, .idle) := by decide

/-- 2.2: CMD 0x00000001. -/
theorem test_nop_reserved : let t := ran State.reset 0x000000001
    (errors t, t.seq, t.doneIP, t.errIP) = ((.error, 0x502, 1, 0), 1, false, true) := by decide

/-- R105, its example. -/
theorem test_hist_clear : (ran { State.reset with hist := [(0x41, 5)] } 0x010000000).histAt 0x41 = 0 := by decide

/-- 2.3: HIST.CLEAR in TABULATE. -/
theorem test_hist_clear_in_tabulate :
    errors (ran { State.reset with mode := .tabulate } 0x010000000) = (.error, 0x503, 0x10000000, 0) := by decide

/-- R106: HIST is not cleared. -/
theorem test_hist_begin : let t := ran { State.reset with hist := [(0x41, 5)] } 0x011000000
    (t.mode, t.histAt 0x41) = (.tabulate, 5) := by decide

/-- R108 and 2.3: HIST.END in TABULATE, and from reset. -/
theorem test_hist_end : (ran { State.reset with mode := .tabulate } 0x012000000).mode = .idle ∧
    errors (ran State.reset 0x012000000) = (.error, 0x503, 0x12000000, 0) := by decide

/-- R109, its example. -/
theorem test_freq_set :
    (ran { State.reset with arg0 := 7, arg1 := 1 } 0x013000020).histAt 0x20 = 0x100000007 := by decide

/-- 2.3: LDFREQ 0x20, 0x100000007 read back. -/
theorem test_freq_get : let t := ran { State.reset with hist := [(0x20, 0x100000007)], result0 := 9, codew := 9 } 0x014000020
    (t.result0, t.result1, t.result2, t.codew) = (0, 7, 1, 9) := by decide

/-- 2.4: 'A' 1, 'B' 1. -/
theorem test_build_two : let t := ran { State.reset with hist := [(0x41, 1), (0x42, 1)] } 0x020000000
    (t.nodeCount, t.treeRootWord, t.cbCount, t.cbMaxlen, t.lut) =
      (3, 0x80000002, 2, 1, [(0x41, ⟨true, 1, [false]⟩), (0x42, ⟨true, 1, [true]⟩)]) := by decide

/-- 2.4: A 1, B 1, C 2, D 3, E 5, F 8: the tie at frequency 2 takes leaf C before node 6. -/
theorem test_build_tie :
    let t := ran { State.reset with hist := [(0x41, 1), (0x42, 1), (0x43, 2), (0x44, 3), (0x45, 5), (0x46, 8)] } 0x020000000
    ((t.lutAt 0x43).code, (t.lutAt 0x41).code, (t.lutAt 0x46).code, t.nodeCount, t.treeRootWord, t.cbMaxlen) =
      ([true, true, true, false], [true, true, true, true, false], [false], 11, 0x8000000A, 5) := by decide

/-- 2.4: NODE.GET of the 72-bit sum 2^65 - 2, and R119: zeros at NODE_COUNT. -/
theorem test_node_get :
    let s := { State.reset with node := [(2, { leaf := false, sym := 0, freq := 0x1FFFFFFFFFFFFFFFE, left := 0, right := 1 })], nodeCount := 3 }
    let t := ran s 0x021000002
    let u := ran { s with result0 := 1 } 0x021000003
    (t.result0, t.result1, t.result2, u.result0) = (0x80400200, 0xFFFFFFFE, 0xFFFFFFFF, 0) := by decide

/-- R122: the LUT and the tree go, HIST stays. -/
theorem test_cb_clear :
    let t := ran { State.reset with hist := [(1, 1)], lut := book, cbCount := 2, cbMaxlen := 3, treeValid := true, nodeCount := 3 } 0x030000000
    (t.lut, t.cbCount, t.cbMaxlen, t.treeValid, t.nodeCount, t.histAt 1) = ([], 0, 0, false, 0, 1) := by decide

/-- 2.5: 'B' "110" and an absent symbol. -/
theorem test_cb_get :
    let t := ran { State.reset with lut := book } 0x031000042
    let u := ran { State.reset with lut := book, codew := 1 } 0x03100005A
    (t.result0, t.codew, u.result0, u.codew) = (0x80000003, 6, 0, 0) := by decide

/-- 2.4: the section of 'z' "0". -/
theorem test_cb_emit :
    (ran { State.reset with lut := [(0x7A, ⟨true, 1, [false]⟩)], cbCount := 1 } 0x032000000).pend =
      [0x00, 0x00, 0x00, 0x01, 0x7A, 0x00, 0x01, 0x30] := by decide

/-- R125. -/
theorem test_cb_load : let t := ran { State.reset with lut := book, cbCount := 2 } 0x033000000
    (t.mode, t.lut, t.cbCount, t.phase) = (.cbLoad, [], 0, .count) := by decide

/-- R129, its example. -/
theorem test_enc_begin : let t := ran { State.reset with compCount := 3 } 0x040000000
    (t.mode, t.compCount) = (.encode, 0) := by decide

/-- R131, its example, and the flush of 2.1 with CNT = 0. -/
theorem test_enc_flush :
    let t := ran { State.reset with mode := .encode, buf := 0b0110, cnt := 4, compCount := 1 } 0x041000000
    let u := ran { State.reset with mode := .encode, compCount := 1 } 0x041000000
    (t.pend, t.padding, t.compCount, t.mode) = ([0x60], 4, 2, .idle) ∧ (u.pend, u.padding, u.compCount, u.mode) = ([], 0, 1, .idle) := by
  decide

/-- R136, its example. -/
theorem test_dec_begin : let t := ran { State.reset with arg0 := 11, arg1 := 3, arg2 := 1, cbCount := 5 } 0x050000000
    (t.mode, t.decO, t.decC, t.decP) = (.decode, 11, 3, 1) := by decide

/-- 2.7: BAD_PADDING is checked before CB_EMPTY, and an empty file stays in IDLE. -/
theorem test_dec_begin_checks :
    errors (ran { State.reset with arg0 := 1, arg1 := 1, arg2 := 8 } 0x050000000) = (.error, 0x140, 0x50000000, 0) ∧
    errors (ran { State.reset with arg0 := 1, arg1 := 1 } 0x050000000) = (.error, 0x135, 0x50000000, 0) ∧
    errors (ran { State.reset with arg2 := 5 } 0x050000000) = (.idle, 0, 0, 0) := by decide

/-- R107, R130, R126 and R137 by their examples and vectors: a counted byte, an encoded byte, a loaded digit, a decoded byte. -/
theorem test_data_by_mode :
    let t := ran { State.reset with mode := .tabulate, hist := [(0x61, 3)] } 0x100000061
    let u := ran { State.reset with mode := .encode, lut := book, cnt := 1 } 0x100000042
    let v := ran { State.reset with mode := .cbLoad, phase := .digits, cntTotal := 1, csym := 0x61, clen := 1 } 0x100000030
    let w := ran { State.reset with
      mode := .decode, lut := [(0x41, ⟨true, 1, [false]⟩), (0x42, ⟨true, 1, [true]⟩)], cbCount := 2, cbMaxlen := 1, decO := 2,
      decC := 1, decP := 6 } 0x10000007F
    t.histAt 0x61 = 4 ∧
    (u.buf, u.cnt, u.pend, u.origCount) = (0b0110, 4, [], 1) ∧
    (v.mode, v.lut, v.cbCount, v.cbMaxlen) = (.idle, [(0x61, ⟨true, 1, [false]⟩)], 1, 1) ∧
    (w.pend, w.mode, w.decEmitted, w.decConsumed, w.key) = ([0x41, 0x42], .idle, 2, 1, []) := by decide

/-- 2.3, 2.5, 2.6, 2.7 and 2.8: the errors of DATA. -/
theorem test_data_errors :
    errors (ran State.reset 0x100000041) = (.error, 0x504, 0x41, 0) ∧
    errors (ran State.reset 0x100000100) = (.error, 0x502, 0x100, 0) ∧
    errors (ran { State.reset with mode := .tabulate, hist := [(0x41, 0xFFFFFFFFFFFFFFFF)], seq := 4 } 0x100000041) = (.error, 0x505, 0x41, 4) ∧
    errors (ran { State.reset with mode := .encode, lut := book } 0x100000043) = (.error, 0x420, 0x43, 0) ∧
    errors (ran { State.reset with mode := .encode, lut := book, compCount := 0xFFFFFFFF } 0x100000041) = (.error, 0x506, 0x41, 0) ∧
    errors (ran { State.reset with mode := .cbLoad, phase := .digits, clen := 2, ccode := [false], seq := 9 } 0x100000032) = (.error, 0x133, 0x32, 9) ∧
    errors (ran { State.reset with mode := .decode, lut := [(0x41, ⟨true, 2, [false, false]⟩)], cbCount := 1, cbMaxlen := 2, decO := 1, decC := 1 } 0x100000080) = (.error, 0x142, 0x80, 0) := by
  decide

/-- R92, its example, in DECODE as in 2.8. -/
theorem test_arg0 : (ran State.reset 0x20000000B).arg0 = 11 := by decide

theorem test_arg1 : (ran { State.reset with arg1 := 5 } 0x300000006).arg1 = 6 := by decide

theorem test_arg2 : let t := ran { State.reset with mode := .decode } 0x4FFFFFFFF
    (t.arg2, t.mode, t.err) = (0xFFFFFFFF, .decode, 0) := by decide

/-- R94, its example. -/
theorem test_ctrl_soft_reset :
    let t := ctrlled { State.reset with mode := .error, err := 0x133, seq := 9, doneIE := true, errIP := true } 1
    (errors t, t.seq, t.doneIE, t.errIP) = ((.idle, 0, 0, 0), 0, false, false) := by decide

/-- R95, its example, and 2.2: CTRL 6 outside ERROR. -/
theorem test_ctrl_abort :
    let t := ctrlled { State.reset with mode := .encode, seq := 7, q := [⟨.cmd, 0⟩, ⟨.cmd, 0⟩, ⟨.cmd, 0⟩], out := [1] } 2
    let u := ctrlled { State.reset with hist := [(0x41, 3)], seq := 4 } 6
    (errors t, t.q, t.out, t.seq, t.errIP) = ((.error, 0x311, 0, 7), [], [], 7, true) ∧
    (errors u, u.histAt 0x41, u.seq, u.errIP) = ((.idle, 0, 0, 0), 0, 4, true) := by decide

/-- 2.2: CLEAR_ERR in ERROR keeps SEQ and IRQ_STATUS. -/
theorem test_ctrl_clear_err :
    let t := ctrlled { State.reset with mode := .error, err := 0x133, errInfo := 2, errSeq := 8, seq := 9, errIP := true } 4
    (errors t, t.seq, t.errIP) = ((.idle, 0, 0, 0), 9, true) := by decide

/-! ## Host accesses -/

/-- 2.2: OUT = [0x40] read twice. -/
theorem test_out_data :
    let t := accessed (accessed { State.reset with out := [0x40] } .read 0x054) .read 0x054
    (t.reads.map HostRead.value, t.out) = ([0x140, 0], []) := by decide

/-- R23, R59: writing 1 clears. -/
theorem test_irq_status_write :
    let t := accessed { State.reset with doneIP := true, errIP := true } (.write 1) 0x01C
    (t.doneIP, t.errIP) = (false, true) := by decide

/-- 2.2: the queue overflows at Q_DEPTH entries. -/
theorem test_queue_overflow : ∀ n, n = Config.qDepth →
    errors (accessed { State.reset with q := List.replicate n ⟨.cmd, 0⟩ } (.write 0x1234) 0x048) = (.error, 0x310, 0x1234, 0) := by
  rintro n rfl
  simp [accessed, hostAccess, Access.inWindow, Access.wordWide, Access.aligned, windowAccess, regAt, State.regWrite, Reg.port,
    State.portWrite, State.raiseHost, State.errorEntry, after, errors, Cause.errWord, Cause.kind, Cause.code, State.reset]

/-! ## Witnesses: states and operands that meet the hypotheses of the statements -/

/-- A block with one entry in its queue. -/
def queued (v : Word) : State := { State.reset with q := [⟨.cmd, v⟩] }

/-- A block with one byte waiting for room in OUT. -/
def waiting : State := { State.reset with pend := [0x41] }

/-- A block in ERROR after a bad digit. -/
def failed : State := errorState State.reset 0x133 0x32 8

/-- Histogram 'A' 1, 'B' 1. -/
def counted : State := { State.reset with hist := [(0x41, 1), (0x42, 1)] }

/-- A loaded codebook with one code, 'A' "0". -/
def oneCode : State := { State.reset with lut := [(0x41, ⟨true, 1, [false]⟩)], cbCount := 1, cbMaxlen := 1 }

/-- The codebook section 00 00 00 01 41 00 01 30, all but its last byte sent. -/
def loading : State :=
  { State.reset with mode := .cbLoad, phase := .digits, cntTotal := 1, csym := 0x41, clen := 1 }

/-- DECODE 1, 1, 7 begun with 'A' "0". -/
def decoding : State := { oneCode with mode := .decode, decO := 1, decC := 1, decP := 7 }

/-- What the lookup of `oneCode` gives. -/
theorem oneCode_lutAt (b : Byte) : oneCode.lutAt b = if b = 0x41 then ⟨true, 1, [false]⟩ else LutEntry.absent := by
  by_cases h : b = 0x41
  · subst h; rfl
  · have : ¬ (0x41 = b.toNat) := fun e => h (BitVec.eq_of_toNat_eq (by simpa using e.symm))
    simp only [State.lutAt, oneCode, Memory.read, if_neg this, if_neg h]

theorem oneCode_canonical : MemoriesCanonical oneCode := by
  refine ⟨?_, ?_, ?_⟩ <;> rfl

theorem oneCode_sound : LutSound oneCode := by
  intro b
  rw [oneCode_lutAt]
  split
  · exact .inl (by decide)
  · exact .inr rfl

theorem oneCode_validSymbols : oneCode.validSymbols = [0x41] := by decide

theorem oneCode_counted : CodebookCounted oneCode := by
  rw [CodebookCounted, oneCode_validSymbols]
  decide

theorem oneCode_distinct : CodesDistinct oneCode := by
  intro a b ha hb _ _
  rw [oneCode_lutAt] at ha hb
  split at ha <;> split at hb <;> simp_all [LutEntry.absent]

theorem oneCode_prefixFree : CodesPrefixFree oneCode := by
  intro a b hab ha hb
  rw [oneCode_lutAt] at ha hb
  split at ha <;> split at hb <;> simp_all [LutEntry.absent]

theorem reset_lutAt (b : Byte) : State.reset.lutAt b = LutEntry.absent := rfl

theorem witness_DecodeOfEncodeIsTheInstruction :
    encode (.nodeGet 511) = .entry { port := .cmd, value := 0x210001FF } := by decide

theorem witness_EncodeOfDecodeIsTheEntry : decodeEntry { port := .data, value := 0xDC } = .ok (.data 0xDC) := rfl

/-- The two ends of each range of R80 (a), and a must-be-zero bit of each form, the lowest and the highest. -/
theorem witness_RejectedEntriesRaiseUsageErrors :
    [0x01, 0x0F, 0x15, 0x1F, 0x22, 0x2F, 0x34, 0x3F, 0x42, 0x4F, 0x51, 0xFF].all (fun op =>
      (0x01 ≤ op ∧ op ≤ 0x0F) ∨ (0x15 ≤ op ∧ op ≤ 0x1F) ∨ (0x22 ≤ op ∧ op ≤ 0x2F) ∨ (0x34 ≤ op ∧ op ≤ 0x3F) ∨
      (0x42 ≤ op ∧ op ≤ 0x4F) ∨ (0x51 ≤ op ∧ op ≤ 0xFF)) = true ∧
    ((0xFF000000 : Word).toNat / 2 ^ 24 = 0xFF) ∧
    ((0x00000001 : Word).toNat / 2 ^ 24 ∈ [0x00, 0x10, 0x11, 0x12, 0x20, 0x30, 0x32, 0x33, 0x40, 0x41, 0x50] ∧
      (0x00000001 : Word).toNat % 2 ^ 24 ≠ 0) ∧
    ((0x50800000 : Word).toNat / 2 ^ 24 = 0x50 ∧ (0x50800000 : Word).toNat % 2 ^ 24 ≠ 0) ∧
    ((0x13000100 : Word).toNat / 2 ^ 24 ∈ [0x13, 0x14, 0x31] ∧ 2 ^ 8 ≤ (0x13000100 : Word).toNat % 2 ^ 24) ∧
    ((0x21000200 : Word).toNat / 2 ^ 24 = 0x21 ∧ 2 ^ 9 ≤ (0x21000200 : Word).toNat % 2 ^ 24) ∧
    2 ^ 8 ≤ (0x00000100 : Word).toNat := by decide

theorem witness_StepRunsTheDecodedEntry :
    (queued 0x11000000).blockIsNext ∧ (queued 0x11000000).mode ≠ .error ∧ (queued 0x11000000).pend = [] ∧
    (queued 0x11000000).q = ⟨.cmd, 0x11000000⟩ :: [] ∧ decodeEntry ⟨.cmd, 0x11000000⟩ = .ok .histBegin :=
  ⟨.inr ⟨rfl, rfl⟩, by decide, rfl, rfl, rfl⟩

theorem witness_StepRunsTheDecodedEntry_rejected :
    (queued 0x01000001).blockIsNext ∧ (queued 0x01000001).mode ≠ .error ∧ (queued 0x01000001).pend = [] ∧
    (queued 0x01000001).q = ⟨.cmd, 0x01000001⟩ :: [] ∧ decodeEntry ⟨.cmd, 0x01000001⟩ = .error .illegalOpcode ∧
    decodeEntry ⟨.cmd, 0x20000001⟩ = .error .reservedField :=
  ⟨.inr ⟨rfl, rfl⟩, by decide, rfl, rfl, rfl, rfl⟩

/-- One access of the host, its move next; and words with each pattern of the three bits that a clause asks for. -/
theorem witness_StepRunsTheCtrlWrite (w : Word) :
    let s : State := { State.reset with accesses := [{ kind := .write w, offset := 0x010, width := 32 }], turns := [.host] }
    s.hostIsNext ∧ s.accesses = { kind := .write w, offset := 0x010, width := 32 } :: [] ∧
    (7 : Word).getLsbD 0 = true ∧ ((6 : Word).getLsbD 0 = false ∧ (6 : Word).getLsbD 1 = true) ∧
    ((4 : Word).getLsbD 0 = false ∧ (4 : Word).getLsbD 1 = false ∧ (4 : Word).getLsbD 2 = true) ∧
    ((8 : Word).getLsbD 0 = false ∧ (8 : Word).getLsbD 1 = false ∧ (8 : Word).getLsbD 2 = false) :=
  ⟨.inl rfl, rfl, by decide⟩

theorem witness_DrainStepMovesOneByteOrStalls :
    (waiting.pend = 0x41 :: [] ∧ waiting.out.length < Config.outDepth) ∧
    (let s := { waiting with out := List.replicate Config.outDepth 0 }; s.pend ≠ [] ∧ Config.outDepth ≤ s.out.length) ∧
    (failed.pend = [] ∧ failed.mode = .error) ∧ State.reset.quiescent :=
  ⟨⟨rfl, Nat.succ_pos _⟩, ⟨by decide, by simp⟩, ⟨rfl, rfl⟩, ⟨rfl, rfl⟩⟩

/-- The entry of `queued 0` is run, and leaves the block quiescent. -/
theorem witness_InternalStepsSetDoneOnQuiescence :
    (queued 0).canMove = true ∧ ∃ t, blockMove (queued 0) = .next t ∧ t.q = [] ∧ t.pend = [] ∧ t.mode ≠ .error :=
  ⟨rfl, _, rfl, rfl, rfl, by decide⟩

theorem witness_SeqCountsExactlyTheDequeuedEntries :
    ((queued 0).canExecute = true ∧ ∃ t, blockMove (queued 0) = .next t) ∧
    (waiting.canExecute = false ∧ ∃ t, blockMove waiting = .next t) ∧
    (∃ t, hostMove { State.reset with accesses := [{ kind := .read, offset := 0, width := 32 }] } = .next t) := by
  refine ⟨⟨rfl, _, rfl⟩, ⟨rfl, ?_⟩, ⟨_, rfl⟩⟩
  unfold blockMove
  split
  · exact ⟨_, rfl⟩
  · split
    · exact ⟨_, rfl⟩
    · exact ⟨_, rfl⟩

theorem witness_WellBehavedHostRunsNeverStop :
    State.hostWellBehaved { State.reset with accesses := [{ kind := .read, offset := 0x0FC, width := 32 }] } := by
  intro a ha
  simp only [List.mem_singleton] at ha
  subst ha
  rfl

theorem witness_BlockLeftAloneComesToRest : (queued 0x20000000).turns = [] ∧ (queued 0x20000000).accesses = [] := ⟨rfl, rfl⟩

theorem witness_QueueWriteCommutesWithInternalStep : waiting.canMove = true ∧ waiting.q.length < Config.qDepth := by
  refine ⟨?_, Nat.succ_pos _⟩
  have h : waiting.out.length < Config.outDepth := Nat.succ_pos _
  simp only [State.canMove, State.canDrain, h, decide_true, Bool.and_true, Bool.or_eq_true]
  exact .inr rfl

/-- The same where the internal step is an execute step, on a block whose queue holds two entries. -/
theorem witness_QueueWriteCommutesWithInternalStep_execute (h : 2 ≤ Config.qDepth) :
    (queued 0x20000000).canMove = true ∧ (queued 0x20000000).q.length < Config.qDepth := ⟨rfl, h⟩

theorem witness_IllegalInModeRaises :
    (Instr.isCommand .encFlush = true ∧ Instr.encFlush ≠ .nop ∧ ¬ Instr.legalIn .encFlush State.reset.mode) ∧
    State.reset.mode = .idle := by
  refine ⟨⟨rfl, by decide, ?_⟩, rfl⟩
  simp [Instr.legalIn, State.reset]

theorem witness_ErrorIsSticky :
    let s := { failed with accesses := [{ kind := .write 0x20000000, offset := 0x040, width := 32 }] }
    s.mode = .error ∧ s.q = [] ∧ s.pend = [] ∧ ∃ t, step s = .next t := ⟨rfl, rfl, rfl, _, rfl⟩

theorem witness_ErrorModeStaysClean :
    ErrorModeClean failed ∧ ∃ t, step { failed with turns := [.host] } = .next t := by
  refine ⟨⟨fun h => absurd rfl h, fun _ => ⟨by decide, rfl⟩⟩, _, rfl⟩

theorem witness_NopAndOperandEntries :
    (0x00800000 : Word).toNat / 2 ^ 24 = 0 ∧ (0x00800000 : Word).toNat % 2 ^ 24 ≠ 0 := by decide

theorem witness_CtrlActions :
    State.reset.mode ≠ .error ∧ failed.mode = .error ∧ ({ failed with turns := [.hardReset] } : State).nextTurn = .hardReset := by decide

theorem witness_QueuePortWrites :
    ((0x050 : Int), Port.arg2) ∈ [((0x040 : Int), Port.cmd), (0x044, .data), (0x048, .arg0), (0x04C, .arg1), (0x050, .arg2)] ∧
    failed.mode = .error ∧
    (let s := { State.reset with q := List.replicate Config.qDepth ⟨.cmd, 0⟩ }; s.mode ≠ .error ∧ s.q.length = Config.qDepth) ∧
    (State.reset.mode ≠ .error ∧ State.reset.q.length ≠ Config.qDepth) :=
  ⟨by decide, rfl, ⟨by decide, by simp⟩, ⟨by decide, Nat.zero_ne_add_one _⟩⟩

theorem witness_BusyDatapathReadsAreFreeDraws :
    0x0BC ∈ [0x048, 0x04C, 0x050, 0x060, 0x064, 0x068, 0x06C, 0x070, 0x074, 0x078, 0x07C, 0x080, 0x084, 0x088, 0x090, 0x094,
      0x098, 0x0A0, 0x0A4, 0x0A8, 0x0AC, 0x0B0, 0x0B4, 0x0B8, 0x0BC] ∧
    ¬ waiting.quiescent ∧ State.reset.quiescent := by
  refine ⟨by decide, fun h => ?_, rfl, rfl⟩
  exact absurd h.2 (by decide)

theorem witness_RegisterValues :
    (0x0FC % 4 = 0 ∧ 0x0FC < 256) ∧ ({ decoding with key := List.replicate 256 true } : State).key.length ≤ 256 ∧
    (queued 0).q.length < 2 ^ 32 ∧ (queued 0).out.length < 2 ^ 32 ∧ 7 < 8 := by
  exact ⟨by decide, Nat.le_of_eq List.length_replicate, by decide, by decide, by decide⟩

theorem witness_OutDataReadsPopAndOtherReadsDoNot :
    ({ State.reset with out := [0x40] } : State).out = 0x40 :: [] ∧ State.reset.out = [] ∧
    (0x0FC % 4 = 0 ∧ 0x0FC < 256 ∧ 0x0FC ≠ 0x054) := ⟨rfl, rfl, by decide⟩

theorem witness_OtherWritesAreIgnoredAndOtherAccessesRefused :
    (0x054 % 4 = 0 ∧ 0x054 < 256 ∧ 0x054 ∉ [0x010, 0x018, 0x01C, 0x040, 0x044, 0x048, 0x04C, 0x050]) ∧
    (0x0FC % 4 = 0 ∧ 0x0C0 ≤ 0x0FC ∧ 0x0FC < 256) ∧ ((-1 : Int) < 0 ∧ (256 : Int) ≤ 256) ∧
    ((0 : Int) ≤ 255 ∧ (255 : Int) < 256 ∧ (255 : Int) % 4 ≠ 0) ∧ (16 ≠ 32) := by decide

theorem witness_HistogramCommands :
    State.reset.mode = .idle ∧ ({ State.reset with mode := .tabulate } : State).mode = .tabulate := ⟨rfl, rfl⟩

theorem witness_FrequencyCommandsAccessOneBin : counted.mode = .idle ∧ MemoriesCanonical counted :=
  ⟨rfl, rfl, rfl, rfl⟩

/-- What CommandRaises asks of a word and a mode: the lowest must-be-zero bit of each form, and a mode that is not the command's. -/
theorem witness_CommandRaises :
    ((0x10000001 : Word).toNat / 2 ^ 24 = 0x10 ∧ 2 ^ 0 ≤ (0x10000001 : Word).toNat % 2 ^ 24) ∧
    ((0x31000100 : Word).toNat / 2 ^ 24 = 0x31 ∧ 2 ^ 8 ≤ (0x31000100 : Word).toNat % 2 ^ 24) ∧
    ((0x21000200 : Word).toNat / 2 ^ 24 = 0x21 ∧ 2 ^ 9 ≤ (0x21000200 : Word).toNat % 2 ^ 24) ∧
    failed.mode ≠ .idle ∧ failed.mode ≠ .tabulate ∧ failed.mode ≠ .encode := by decide

/-- Bins at 2^64 - 2 and 2^64 - 1. -/
theorem witness_TabulateCountsTheByte :
    let s := { State.reset with mode := .tabulate, hist := [(0x41, 0xFFFFFFFFFFFFFFFE), (0x42, 0xFFFFFFFFFFFFFFFF)] }
    MemoriesCanonical s ∧ s.mode = .tabulate ∧ (s.histAt 0x41).toNat ≠ 2 ^ 64 - 1 ∧ (s.histAt 0x42).toNat = 2 ^ 64 - 1 :=
  ⟨⟨rfl, rfl, rfl⟩, rfl, by decide, by decide⟩

theorem witness_TabulationCountsOccurrences :
    MemoriesCanonical State.reset ∧ State.reset.mode = .idle ∧
    ∀ b : Byte, (State.reset.histAt b).toNat + ([0x61, 0x61] : List Byte).count b < 2 ^ 64 := by
  refine ⟨⟨rfl, rfl, rfl⟩, rfl, fun b => ?_⟩
  have h := List.count_le_length (l := ([0x61, 0x61] : List Byte)) (a := b)
  have h0 : (State.reset.histAt b).toNat = 0 := rfl
  have h2 : ([0x61, 0x61] : List Byte).length = 2 := rfl
  omega

theorem witness_BuildOfNoneOrOneSymbol :
    State.reset.mode = .idle ∧ State.reset.countedSymbols = [] ∧
    ({ State.reset with hist := [(0x7A, 1)] } : State).countedSymbols = [0x7A] := by
  refine ⟨rfl, ?_, ?_⟩ <;> decide

/-- Two idle states with the same bins and different codebooks. -/
theorem witness_BuildDependsOnHistogramAlone :
    State.reset.mode = .idle ∧ oneCode.mode = .idle ∧ ∀ b : Byte, State.reset.histAt b = oneCode.histAt b :=
  ⟨rfl, rfl, fun _ => rfl⟩

/-- The hypotheses of the four statements about what BUILD leaves. -/
theorem counted_builds : counted.mode = .idle ∧ counted.countedSymbols = [0x41, 0x42] ∧ ∃ t, exec .build counted = .next t := by
  refine ⟨rfl, by decide, _, rfl⟩

/-- Leaf 1 is the right child of the root, node 2, and its code is the path of one bit 1. -/
theorem witness_BuildCodesExactlyTheCountedSymbols :
    counted.mode = .idle ∧ 2 = counted.countedSymbols.length ∧ 2 ≠ 0 ∧
    ∃ t, exec .build counted = .next t ∧ 1 < t.nodeCount.toNat ∧ 1 ≠ t.treeIndex.toNat ∧ (t.nodeAt 2).leaf = false ∧
      t.isParent 2 1 ∧ t.leadsTo t.treeIndex.toNat [true] 1 ∧ (t.lutAt (t.nodeAt 1).sym).valid = true ∧
      (t.lutAt (t.nodeAt 1).sym).code = [true] := by
  refine ⟨rfl, by rw [counted_builds.2.1]; rfl, by decide, _, rfl, by decide, by decide, by decide, ?_, ⟨by decide, rfl⟩,
    by decide, by decide⟩
  exact ⟨by decide, by decide, .inr (by decide)⟩

theorem witness_BuiltCodebookIsPrefixFree : counted.mode = .idle ∧ ∃ t, exec .build counted = .next t :=
  ⟨rfl, counted_builds.2.2⟩

theorem witness_BuiltCodeLengths :
    counted.mode = .idle ∧ 2 = counted.countedSymbols.length ∧ 2 ≤ 2 ∧
    (∃ t, exec .build counted = .next t ∧ (t.lutAt 0x42).valid = true) ∧
    0 = State.reset.countedSymbols.length ∧ ∃ t, exec .build State.reset = .next t := by
  refine ⟨rfl, by rw [counted_builds.2.1]; rfl, by decide, ⟨_, rfl, by decide⟩, ?_, _, rfl⟩
  rw [witness_BuildOfNoneOrOneSymbol.2.1]
  rfl

theorem witness_BuiltFrequenciesAreExactSums :
    counted.mode = .idle ∧ counted.countedSymbols ≠ [] ∧
    ∃ t, exec .build counted = .next t ∧ 2 < t.nodeCount.toNat ∧ (t.nodeAt 0).leaf = true ∧ (t.nodeAt 2).leaf = false := by
  refine ⟨rfl, by rw [counted_builds.2.1]; decide, _, rfl, ?_⟩
  decide

/-- The internal node 2 joins the leaves 0 and 1. -/
theorem witness_BuildJoinsTheTwoLeast :
    counted.mode = .idle ∧ 2 = counted.countedSymbols.length ∧ 2 ≠ 0 ∧
    ∃ t, exec .build counted = .next t ∧ 2 < t.nodeCount.toNat ∧ (t.nodeAt 2).left.toNat = 0 ∧ (t.nodeAt 2).right.toNat = 1 := by
  refine ⟨rfl, by rw [counted_builds.2.1]; rfl, by decide, _, rfl, ?_⟩
  decide

theorem witness_NodeGetReadsOneNode :
    let s := { State.reset with nodeCount := 511 }
    s.mode = .idle ∧ (510 : BitVec 9).toNat < s.nodeCount.toNat ∧ s.nodeCount.toNat ≤ (511 : BitVec 9).toNat := by decide

theorem witness_CodebookClearAndLoadStart : oneCode.mode = .idle := rfl

theorem witness_CbGetReadsOneCode :
    (oneCode.lutAt 0x41).sound ∧ oneCode.mode = .idle ∧ (oneCode.lutAt 0x41).valid = true ∧ (oneCode.lutAt 0x42).sound ∧
    (oneCode.lutAt 0x42).valid = false := ⟨oneCode_sound _, rfl, rfl, oneCode_sound _, rfl⟩

theorem witness_CbEmitPushesTheWireForm : LutSound oneCode ∧ oneCode.mode = .idle := ⟨oneCode_sound, rfl⟩

/-- The fourth byte of a count at 0, 1, 256 and 257, and the second byte of a length at 0, 1, 256 and 257. -/
theorem witness_LoadedCountAndLength :
    let s := { State.reset with mode := .cbLoad }
    let c := { s with idx := 3 }
    let d := { c with acc := 1 }
    let l := { s with phase := .len }
    (s.mode = .cbLoad ∧ s.phase = .count ∧ s.idx.toNat < 3) ∧
    (d.phase = .count ∧ d.idx = 3 ∧ 256 < (d.acc.toNat * 2 ^ 8 + (1 : Byte).toNat) % 2 ^ 32) ∧
    ((c.acc.toNat * 2 ^ 8 + (0 : Byte).toNat) % 2 ^ 32 = 0) ∧
    (0 < (c.acc.toNat * 2 ^ 8 + (1 : Byte).toNat) % 2 ^ 32 ∧ (d.acc.toNat * 2 ^ 8 + (0 : Byte).toNat) % 2 ^ 32 = 256) ∧
    (l.phase = .len ∧ l.idx = 0) ∧
    (let m := { l with idx := 1 }
     let n := { m with acc := 1 }
     m.phase = .len ∧ m.idx = 1 ∧ (m.acc.toNat * 2 ^ 8 + (0 : Byte).toNat) % 2 ^ 16 = 0 ∧
     256 < (n.acc.toNat * 2 ^ 8 + (1 : Byte).toNat) % 2 ^ 16 ∧ 0 < (m.acc.toNat * 2 ^ 8 + (1 : Byte).toNat) % 2 ^ 16 ∧
     (n.acc.toNat * 2 ^ 8 + (0 : Byte).toNat) % 2 ^ 16 = 256) := by decide

/-- A symbol that has an entry and one that has none. -/
theorem witness_LoadedSymbolAndDigits_symbol :
    let s := { oneCode with mode := .cbLoad, phase := .sym, cntTotal := 2, doneCount := 1 }
    s.mode = .cbLoad ∧ s.phase = .sym ∧ (s.lutAt 0x41).valid = true ∧ (s.lutAt 0x42).valid = false := by decide

/-- A byte that is no digit, a digit that is not the last, a last digit that repeats the code of 'A', and one that is new, as the last entry
and as the first of two. -/
theorem witness_LoadedSymbolAndDigits_digits :
    let s := { oneCode with mode := .cbLoad, phase := .digits, cntTotal := 2, doneCount := 1, csym := 0x42, clen := 1 }
    (s.mode = .cbLoad ∧ s.phase = .digits ∧ (0x32 : Byte) ≠ 0x30 ∧ (0x32 : Byte) ≠ 0x31) ∧
    (let u := { s with clen := 2 }; u.phase = .digits ∧ u.ccode.length + 1 ≠ u.clen.toNat) ∧
    (s.ccode.length + 1 = s.clen.toNat ∧ MemoriesCanonical s) ∧
    (∃ c, (s.lutAt c).valid = true ∧ (s.lutAt c).len = s.clen ∧ (s.lutAt c).code = s.ccode ++ [decide ((0x30 : Byte) = 0x31)]) ∧
    (¬ ∃ c, (s.lutAt c).valid = true ∧ (s.lutAt c).len = s.clen ∧ (s.lutAt c).code = s.ccode ++ [decide ((0x31 : Byte) = 0x31)]) ∧
    (s.doneCount + 1).toNat = s.cntTotal.toNat ∧ ({ s with cntTotal := 3 }.doneCount + 1).toNat ≠ ({ s with cntTotal := 3 }).cntTotal.toNat := by
  refine ⟨by decide, by decide, ⟨rfl, rfl, rfl, rfl⟩, ⟨0x41, by decide⟩, ?_, by decide, by decide⟩
  rintro ⟨c, -, -, hc⟩
  have h := oneCode_lutAt c
  rw [show oneCode.lutAt c = State.lutAt _ c from rfl] at h
  erw [h] at hc
  split at hc
  · exact absurd hc (by decide)
  · exact absurd hc (by decide)

theorem witness_EmitThenLoadGivesTheSameCodebook :
    MemoriesCanonical oneCode ∧ LutSound oneCode ∧ CodebookCounted oneCode ∧ CodesDistinct oneCode ∧ State.reset.mode = .idle :=
  ⟨oneCode_canonical, oneCode_sound, oneCode_counted, oneCode_distinct, rfl⟩

theorem witness_EncoderBeginAndFlush :
    oneCode.mode = .idle ∧ (let s := { oneCode with mode := .encode }; s.mode = .encode ∧ s.cnt = 0) ∧
    (let s := { oneCode with mode := .encode, cnt := 7 }; s.mode = .encode ∧ s.cnt ≠ 0) := by decide

/-- 95_test_vectors.md 2.6: a missing code, and the counters at the last value that is accepted and the first that is not. -/
theorem witness_EncodeAppendsTheCode :
    let s := { oneCode with mode := .encode, origCount := 0xFFFFFFFE, compCount := 0xFFFFFFFE, cnt := 7 }
    let u := { oneCode with mode := .encode, origCount := 0xFFFFFFFF }
    s.mode = .encode ∧ (s.lutAt 0x41).sound ∧ (s.lutAt 0x42).sound ∧ (s.lutAt 0x42).valid = false ∧ (s.lutAt 0x41).valid = true ∧
    s.origCount.toNat ≠ 2 ^ 32 - 1 ∧ s.compCount.toNat + (s.cnt.toNat + (s.lutAt 0x41).len.toNat + 7) / 8 ≤ 2 ^ 32 - 1 ∧
    u.origCount.toNat = 2 ^ 32 - 1 ∧
    (let v := { s with compCount := 0xFFFFFFFF }
     2 ^ 32 - 1 < v.compCount.toNat + (v.cnt.toNat + (v.lutAt 0x41).len.toNat + 7) / 8) :=
  ⟨rfl, oneCode_sound 0x41, oneCode_sound 0x42, rfl, rfl, by decide, by decide, by decide, by decide⟩

theorem witness_EncodedFileCarriesTheCodes :
    oneCode.mode = .idle ∧ LutSound oneCode ∧ (∀ x ∈ [(0x41 : Byte), 0x41], (oneCode.lutAt x).valid = true) ∧
    [(0x41 : Byte), 0x41].length < 2 ^ 32 ∧ ((oneCode.codesOf [0x41, 0x41]).length + 7) / 8 < 2 ^ 32 :=
  ⟨rfl, oneCode_sound, by decide, by decide, by decide⟩

/-- The three checks of DEC.BEGIN, each the first that fails, with P at 7 and 8, and a file and an empty file that pass. -/
theorem witness_DecodeBeginChecksAndLatches :
    oneCode.mode = .idle ∧ 7 < ({ oneCode with arg2 := 8 } : State).arg2.toNat ∧
    (let s := { State.reset with arg0 := 1, arg2 := 7 }; s.arg2.toNat ≤ 7 ∧ s.cbCount = 0 ∧ s.arg0 ≠ 0) ∧
    (let s := { oneCode with arg0 := 1 }; s.arg2.toNat ≤ 7 ∧ s.cbCount ≠ 0 ∧ s.arg1 = 0 ∧ s.arg0 ≠ 0) ∧
    (let s := { oneCode with arg0 := 1, arg1 := 1 }; s.cbCount ≠ 0 ∧ s.arg1 ≠ 0) ∧ State.reset.arg0 = 0 := by decide

/-- 95_test_vectors.md 2.7: 'A' "0" with DECODE 1, 1, 7 on 0x00 and on 0x80, DECODE 2, 1, 7 on 0x00, DECODE 1, 2, 0 on 0x00, and DECODE 0, 2, 0. -/
theorem witness_DecodeConsumesOnePayloadByte :
    decoding.mode = .decode ∧
    ([false] = (lowBits 0x00 8).take (if decoding.decConsumed + 1 = decoding.decC then 8 - decoding.decP.toNat else 8)) ∧
    (∃ u, decodeKeyBits [false] decoding = .ok u ∧ decoding.decConsumed + 1 = decoding.decC ∧
      decoding.decO.toNat ≤ u.decEmitted.toNat) ∧
    ([true] = (lowBits 0x80 8).take (if decoding.decConsumed + 1 = decoding.decC then 8 - decoding.decP.toNat else 8)) ∧
    decodeKeyBits [true] decoding = .error .unmatchable ∧
    (let s := { decoding with decO := 2 }
     ∃ u, decodeKeyBits [false] s = .ok u ∧ s.decConsumed + 1 = s.decC ∧ u.decEmitted.toNat < s.decO.toNat) ∧
    (let s := { decoding with decC := 2 }
     (List.replicate 8 false = (lowBits 0x00 8).take (if s.decConsumed + 1 = s.decC then 8 - s.decP.toNat else 8)) ∧
     (∃ u, decodeKeyBits (List.replicate 8 false) s = .ok u) ∧ s.decConsumed + 1 ≠ s.decC) ∧
    (let s := { decoding with decO := 0 }; s.decEmitted = s.decO) := by
  refine ⟨rfl, by decide, ⟨_, rfl, by decide, by decide⟩, by decide, rfl, ⟨_, rfl, by decide, by decide⟩,
    ⟨by decide, ⟨_, rfl⟩, by decide⟩, rfl⟩

/-- 'A' "0": the bit 0 matches, the bit 1 is UNMATCHABLE; with CB_MAXLEN 2 it would stay in the key. -/
theorem witness_KeyMatchesAtTheFirstCode :
    MemoriesCanonical decoding ∧ LutSound decoding ∧ CodesDistinct decoding ∧ decoding.decEmitted ≠ decoding.decO ∧
    ((decoding.lutAt 0x41).valid = true ∧ (decoding.lutAt 0x41).code = decoding.key ++ [false]) ∧
    (∀ c : Byte, (decoding.lutAt c).valid = true → (decoding.lutAt c).code ≠ decoding.key ++ [true]) ∧
    decoding.cbMaxlen.toNat ≤ decoding.key.length + 1 ∧
    (let s := { decoding with cbMaxlen := 2 }; s.key.length + 1 < s.cbMaxlen.toNat) := by
  refine ⟨oneCode_canonical, oneCode_sound, oneCode_distinct, by decide, by decide, fun c _ hc => ?_, by decide, by decide⟩
  have h : decoding.lutAt c = _ := oneCode_lutAt c
  rw [h] at hc
  split at hc <;> exact absurd hc (by decide)

/-- One byte 'A' encoded with 'A' "0": the payload is 00 with PADDING 7. -/
theorem witness_PerFileRoundTrip :
    oneCode.mode = .idle ∧ MemoriesCanonical oneCode ∧ LutSound oneCode ∧ CodebookCounted oneCode ∧ CodesPrefixFree oneCode ∧
    ∃ t, runInstrs ([.encBegin] ++ [(0x41 : Byte)].map .data ++ [.encFlush]) oneCode = .next t ∧ t.mode = .idle ∧
      t.pend = oneCode.pend ++ [0x00] :=
  ⟨rfl, oneCode_canonical, oneCode_sound, oneCode_counted, oneCode_prefixFree, _, rfl, rfl, rfl⟩

theorem witness_MemoriesStayCanonical :
    MemoriesCanonical { counted with q := [⟨.cmd, 0x20000000⟩], turns := [.block] } ∧
    ∃ t, step { counted with q := [⟨.cmd, 0x20000000⟩], turns := [.block] } = .next t := ⟨⟨rfl, rfl, rfl⟩, _, rfl⟩

theorem witness_QueuesStayBounded : QueuesBounded (queued 0) ∧ ∃ t, step (queued 0) = .next t :=
  ⟨⟨Nat.succ_le_succ (Nat.zero_le _), Nat.zero_le _⟩, _, rfl⟩

theorem witness_BitWriterStaysSound :
    let s := { oneCode with mode := .encode, cnt := 7, q := [⟨.data, 0x41⟩], turns := [.block] }
    EncoderSound s ∧ ∃ t, step s = .next t := by
  refine ⟨⟨by decide, fun h => absurd rfl h, by decide⟩, _, rfl⟩

theorem witness_DecoderStaysSound :
    let s := { decoding with q := [⟨.data, 0x00⟩], turns := [.block] }
    DecoderSound s ∧ ∃ t, step s = .next t := by
  refine ⟨⟨fun h => absurd rfl h, fun _ => ⟨.inl rfl, by decide, by decide⟩⟩, _, rfl⟩

/-- The hypotheses of the two statements about the load of a codebook, at its last byte. -/
theorem loading_meets :
    let s := { loading with q := [⟨.data, 0x30⟩], turns := [.block] }
    MemoriesCanonical s ∧ LutSound s ∧ ParserSound s ∧ CodebookCounted s ∧ CodesDistinct s ∧ LoadCounted s ∧
    ∃ t, step s = .next t := by
  refine ⟨⟨rfl, rfl, rfl⟩, fun _ => .inr rfl, ⟨fun h => absurd rfl h, fun _ => by decide⟩, ?_, ?_, ?_, _, rfl⟩
  · have h : State.validSymbols { loading with q := [⟨.data, 0x30⟩], turns := [.block] } = [] := by decide
    rw [CodebookCounted, h]
    decide
  · intro a _ ha
    exact Bool.noConfusion (show false = true from ha)
  · intro _
    refine ⟨rfl, rfl, fun h => absurd h (by decide), fun _ => by decide, fun _ => rfl⟩

theorem witness_LutEntriesStaySound :
    let s := { loading with q := [⟨.data, 0x30⟩], turns := [.block] }
    MemoriesCanonical s ∧ LutSound s ∧ ParserSound s ∧ ∃ t, step s = .next t :=
  ⟨loading_meets.1, loading_meets.2.1, loading_meets.2.2.1, loading_meets.2.2.2.2.2.2⟩

theorem witness_CodebookStaysCountedAndDistinct :
    let s := { loading with q := [⟨.data, 0x30⟩], turns := [.block] }
    MemoriesCanonical s ∧ LutSound s ∧ ParserSound s ∧ CodebookCounted s ∧ CodesDistinct s ∧ LoadCounted s ∧
    ∃ t, step s = .next t := loading_meets

/-- A built tree of 'A' and 'B'. -/
theorem witness_ValidTreeKeepsMatchingTheLut :
    ∃ s t, exec .build counted = .next s ∧ TreeMatchesLut s ∧ s.treeValid = true ∧ step { s with turns := [.block] } = .next t := by
  refine ⟨_, _, rfl, ⟨fun _ => ⟨by decide, by decide⟩, fun h => absurd h (by decide)⟩, by decide, rfl⟩

/-- A schedule in which the reset signal comes before the bytes of CB.EMIT reach OUT, so that nothing depends on the depths. -/
def resetInTime : HostState :=
  ⟨{ State.reset with turns := [.host, .host, .host, .block, .host, .host, .block, .host, .host, .hardReset, .host] }, []⟩

/-- A host procedure ended with a result. -/
def succeeded (r : Except HostStop (List Byte × List Byte) × HostState) : Bool :=
  match r.1 with
  | .ok _ => true
  | .error _ => false

/-- A run of HostEncode on the empty list that ends without error, whatever the depths are. -/
theorem witness_EveryArchiveBeginsWithTheHeader :
    ∃ archive name h', hostRun (hostEncode 4 [0x75] []) resetInTime = (.ok (archive, name), h') := by
  have h : succeeded (hostRun (hostEncode 4 [0x75] []) resetInTime) = true := by decide +kernel
  revert h
  generalize hostRun (hostEncode 4 [0x75] []) resetInTime = r
  intro h
  obtain ⟨e, h'⟩ := r
  cases e with
  | error e => exact absurd h Bool.false_ne_true
  | ok a => exact ⟨a.1, a.2, h', rfl⟩

/-- The first and the last byte of the texts, and the version 2. -/
theorem witness_HeaderCorruptionIsReported :
    (0 < 23 ∧ archiveHeader[0]? ≠ some 0xFF) ∧ (22 < 23 ∧ archiveHeader[22]? ≠ some 0x4E) ∧
    (([0, 0, 0, 2] : List Byte).length = 4 ∧ ([0, 0, 0, 2] : List Byte) ≠ [0, 0, 0, 1]) := by decide

end Sys2Proof.Tests
end

/-! ## What a step does to the memories, the codebook and its parser

The invariants of 10_state.md R42-R48 speak of one part of the block only: HIST, NODE, LUT, their counters, the parser, and whether MODE
is CB_LOAD. A step takes that part as it is, changes it in one of the ways listed in `BookEffect`, and leaves it so. -/

namespace Sys2Proof.Machine

/-- The memories, their counters and the parser are the same in both states, and both or neither are in CB_LOAD. -/
structure SameBook (s t : State) : Prop where
  hist : t.hist = s.hist
  node : t.node = s.node
  nodeCount : t.nodeCount = s.nodeCount
  treeValid : t.treeValid = s.treeValid
  treeIndex : t.treeIndex = s.treeIndex
  lut : t.lut = s.lut
  cbCount : t.cbCount = s.cbCount
  cbMaxlen : t.cbMaxlen = s.cbMaxlen
  phase : t.phase = s.phase
  acc : t.acc = s.acc
  idx : t.idx = s.idx
  cntTotal : t.cntTotal = s.cntTotal
  doneCount : t.doneCount = s.doneCount
  csym : t.csym = s.csym
  clen : t.clen = s.clen
  ccode : t.ccode = s.ccode
  loading : t.mode = .cbLoad ↔ s.mode = .cbLoad

namespace SameBook

theorem refl (s : State) : SameBook s s := by constructor <;> rfl

theorem trans {s t u : State} (h : SameBook s t) (k : SameBook t u) : SameBook s u where
  hist := k.hist.trans h.hist
  node := k.node.trans h.node
  nodeCount := k.nodeCount.trans h.nodeCount
  treeValid := k.treeValid.trans h.treeValid
  treeIndex := k.treeIndex.trans h.treeIndex
  lut := k.lut.trans h.lut
  cbCount := k.cbCount.trans h.cbCount
  cbMaxlen := k.cbMaxlen.trans h.cbMaxlen
  phase := k.phase.trans h.phase
  acc := k.acc.trans h.acc
  idx := k.idx.trans h.idx
  cntTotal := k.cntTotal.trans h.cntTotal
  doneCount := k.doneCount.trans h.doneCount
  csym := k.csym.trans h.csym
  clen := k.clen.trans h.clen
  ccode := k.ccode.trans h.ccode
  loading := k.loading.trans h.loading

/-- Error entry resets the memories, the codebook and its parser (60_exceptions.md R154). -/
theorem errorEntry (s : State) (c : Cause) (info eseq : Word) : SameBook State.reset (s.errorEntry c info eseq) := by
  constructor <;> simp [State.reset]

theorem toReset (s : State) : SameBook State.reset s.toReset := by constructor <;> rfl

end SameBook

/-- The codebook with the entry of the parser, its code complete (44_codebook.md R126). -/
def State.committed (s : State) (code : Bits) : State :=
  { s with
    lut := Memory.write LutEntry.absent s.lut s.csym.toNat { valid := true, len := s.clen, code := code },
    cbCount := s.cbCount + 1,
    cbMaxlen := if s.cbMaxlen.toNat < s.clen.toNat then s.clen else s.cbMaxlen,
    doneCount := s.doneCount + 1 }

/-- What one byte of a codebook section can do, with the checks of R126 that led to it. -/
inductive LoadEffect (s : State) : State → Prop
  | raise (c : Cause) (info : Word) : LoadEffect s (s.raise c info)
  | collect (acc : Word) (idx : BitVec 2) : LoadEffect s { s with acc := acc, idx := idx }
  | countZero (hp : s.phase = .count) : LoadEffect s s.loadFinish
  | count (n : Word) (hp : s.phase = .count) (h0 : n.toNat ≠ 0) (hn : n.toNat ≤ 256) :
      LoadEffect s { s with cntTotal := n, acc := 0, idx := 0, phase := .sym }
  | sym (b : Byte) (hp : s.phase = .sym) (hb : (s.lutAt b).valid = false) : LoadEffect s { s with csym := b, phase := .len }
  | len (n : BitVec 9) (hp : s.phase = .len) (h0 : 1 ≤ n.toNat) (hn : n.toNat ≤ 256) :
      LoadEffect s { s with acc := 0, idx := 0, clen := n, ccode := [], phase := .digits }
  | digit (d : Bool) (hp : s.phase = .digits) (hl : (s.ccode ++ [d]).length ≠ s.clen.toNat) :
      LoadEffect s { s with ccode := s.ccode ++ [d] }
  | entry (code : Bits) (hp : s.phase = .digits) (hl : code.length = s.clen.toNat) (hm : matchKey s.lut code = none)
      (hd : (s.doneCount + 1).toNat ≠ s.cntTotal.toNat) : LoadEffect s { s.committed code with phase := .sym, ccode := [] }
  | lastEntry (code : Bits) (hp : s.phase = .digits) (hl : code.length = s.clen.toNat) (hm : matchKey s.lut code = none) :
      LoadEffect s (s.committed code).loadFinish

/-- What an instruction can do to the memories, the codebook and its parser. -/
inductive BookEffect (s : State) : State → Prop
  | keep : BookEffect s s
  | reset : BookEffect s State.reset
  | histWrite (b : Byte) (v : BitVec 64) : BookEffect s (s.setHist b v)
  | histClear : BookEffect s { s with hist := [] }
  | codebookClear (hm : s.mode = .idle) : BookEffect s s.clearCodebook
  | loadStart (hm : s.mode = .idle) : BookEffect s { s.clearCodebook.clearParser with mode := .cbLoad }
  | build (hm : s.mode = .idle) : BookEffect s s.buildTree
  | load {t : State} (hm : s.mode = .cbLoad) (h : LoadEffect s t) : BookEffect s t

/-- An effect of `BookEffect`, and then changes outside the memories, the codebook and its parser. -/
def BookChange (s t : State) : Prop := ∃ u, BookEffect s u ∧ SameBook u t

namespace BookChange

theorem of_same {s t : State} (h : SameBook s t) : BookChange s t := ⟨s, .keep, h⟩

theorem of_effect {s t : State} (h : BookEffect s t) : BookChange s t :=
  ⟨t, h, .refl t⟩

theorem errorEntry (s u : State) (c : Cause) (info eseq : Word) : BookChange s (u.errorEntry c info eseq) :=
  ⟨State.reset, .reset, .errorEntry ..⟩

theorem trans_same {s t u : State} (h : BookChange s t) (k : SameBook t u) : BookChange s u :=
  let ⟨v, hv, hvt⟩ := h
  ⟨v, hv, hvt.trans k⟩

end BookChange

/-! ### DATA in CB_LOAD -/

theorem State.loadCount_effect {s : State} (hp : s.phase = .count) (b : Byte) : LoadEffect s (s.loadCount b) := by
  unfold State.loadCount
  split
  · split
    · exact .raise _ _
    · split
      · exact .countZero hp
      · next h256 h0 => exact .count _ hp (fun h => h0 (BitVec.eq_of_toNat_eq (by simpa using h))) (by omega)
  · exact .collect _ _

theorem State.loadSym_effect {s : State} (hp : s.phase = .sym) (b : Byte) : LoadEffect s (s.loadSym b) := by
  unfold State.loadSym
  split
  · exact .raise _ _
  · next hv => exact .sym b hp (by simpa using hv)

/-- The length that ends PHASE = LEN fits CLEN's nine bits. -/
theorem toNat_lenField {a : Word} (h : (a.extractLsb' 0 16).toNat ≤ 256) :
    (a.extractLsb' 0 9).toNat = (a.extractLsb' 0 16).toNat := by
  simp only [BitVec.extractLsb'_toNat, Nat.shiftRight_zero] at h ⊢
  omega

theorem State.loadLen_effect {s : State} (hp : s.phase = .len) (b : Byte) : LoadEffect s (s.loadLen b) := by
  unfold State.loadLen
  split
  · split
    · exact .raise _ _
    · next h =>
      have hn := toNat_lenField (a := s.accWith b) (by omega)
      exact .len _ hp (by omega) (by omega)
  · exact .collect _ _

theorem State.loadCommit_effect {s : State} (hp : s.phase = .digits) (b : Byte) {code : Bits}
    (hl : code.length = s.clen.toNat) : LoadEffect s (s.loadCommit b code) := by
  unfold State.loadCommit
  split
  · exact .raise _ _
  · next hm =>
    have hm : matchKey s.lut code = none := by simpa using hm
    simp only
    split
    · exact .lastEntry code hp hl hm
    · next hd => exact .entry code hp hl hm hd

theorem State.loadDigit_effect {s : State} (hp : s.phase = .digits) (b : Byte) : LoadEffect s (s.loadDigit b) := by
  unfold State.loadDigit
  split
  · exact .raise _ _
  · split
    · next hl => exact State.loadCommit_effect hp b hl
    · next hl => exact .digit _ hp hl

theorem State.loadByte_effect (s : State) (b : Byte) : LoadEffect s (s.loadByte b) := by
  unfold State.loadByte
  split
  · next hp => exact State.loadCount_effect hp b
  · next hp => exact State.loadSym_effect hp b
  · next hp => exact State.loadLen_effect hp b
  · next hp => exact State.loadDigit_effect hp b

/-! ### The meanings of the instructions -/

/-- A command makes a change when its effect in its own mode is one; elsewhere it raises. -/
theorem inMode_bookChange {m : Mode} {s : State} (i : Instr) {f : State → State} (h : s.mode = m → BookChange s (f s)) :
    BookChange s (inMode m i s f) := by
  rcases inMode_cases m i s f with ⟨hm, he⟩ | ⟨-, he⟩ <;> rw [he]
  · exact h hm
  · exact .errorEntry ..

/-- The bit loop of R137 changes PEND, the count of symbols and KEY only. -/
theorem decodeKeyBits_eq {bits : Bits} {s t : State} (h : decodeKeyBits bits s = .ok t) :
    t = { s with pend := t.pend, decEmitted := t.decEmitted, key := t.key } := by
  induction bits generalizing s with
  | nil => cases h; rfl
  | cons b bs ih =>
    rw [decodeKeyBits] at h
    split at h
    · cases h; rfl
    · split at h
      · have ht := ih h
        exact ht
      · split at h
        · cases h
        · have ht := ih h
          exact ht

theorem State.decodeByte_bookChange {s : State} (hm : s.mode = .decode) (b : Byte) : BookChange s (s.decodeByte b) := by
  unfold State.decodeByte
  split
  · exact .errorEntry ..
  · next u hu =>
    rw [decodeKeyBits_eq hu]
    unfold State.decodeCounted
    split
    · split
      · exact .errorEntry ..
      · exact .of_same (by constructor <;> simp [hm])
    · exact .of_same (by constructor <;> rfl)

theorem State.encodeByte_bookChange (s : State) (b : Byte) : BookChange s (s.encodeByte b) := by
  unfold State.encodeByte
  split
  · split
    · exact .errorEntry ..
    · refine .of_same ?_
      rw [State.bitPuts_eq]
      constructor <;> rfl
  · exact .errorEntry ..

theorem State.tabulateByte_bookChange (s : State) (b : Byte) : BookChange s (s.tabulateByte b) := by
  unfold State.tabulateByte
  split
  · exact .errorEntry ..
  · exact .of_effect (.histWrite ..)

theorem execData_bookChange {b : Byte} {s t : State} (h : execData b s = .next t) : BookChange s t := by
  cases h
  split
  · exact .errorEntry ..
  · exact s.tabulateByte_bookChange b
  · exact s.encodeByte_bookChange b
  · next hm => exact .of_effect (.load hm (s.loadByte_effect b))
  · next hm => exact State.decodeByte_bookChange hm b
  · exact .of_effect .keep

theorem State.decodeBegin_bookChange {s : State} (hm : s.mode = .idle) : BookChange s s.decodeBegin := by
  unfold State.decodeBegin
  split
  · exact .errorEntry ..
  · split
    · exact .errorEntry ..
    · split
      · exact .errorEntry ..
      · refine .of_same ?_
        constructor <;> simp only [hm]
        split <;> simp

theorem State.abort_bookChange (s : State) : BookChange s s.abort := by
  by_cases hm : s.mode = .error
  · rw [State.abort_of_error hm]; exact .of_effect .keep
  · rw [State.abort_of_ne hm]; exact .errorEntry ..

theorem State.clearErr_sameBook (s : State) : SameBook s s.clearErr := by
  by_cases hm : s.mode = .error
  · rw [State.clearErr_of_error hm]
    constructor <;> simp [hm]
  · rw [State.clearErr_of_ne hm]
    constructor <;> rfl

theorem exec_bookChange {i : Instr} {s t : State} (h : exec i s = .next t) : BookChange s t := by
  cases i with
  | nop => cases h; exact .of_effect .keep
  | arg0 v => cases h; exact .of_same (by constructor <;> rfl)
  | arg1 v => cases h; exact .of_same (by constructor <;> rfl)
  | arg2 v => cases h; exact .of_same (by constructor <;> rfl)
  | data b => exact execData_bookChange h
  | histClear => cases h; exact inMode_bookChange _ fun _ => .of_effect .histClear
  | histBegin => cases h; exact inMode_bookChange _ fun hm => .of_same (by constructor <;> simp [hm])
  | histEnd => cases h; exact inMode_bookChange _ fun hm => .of_same (by constructor <;> simp [hm])
  | freqSet b => cases h; exact inMode_bookChange _ fun _ => .of_effect (.histWrite ..)
  | freqGet b => cases h; exact inMode_bookChange _ fun _ => .of_same (by constructor <;> rfl)
  | build => cases h; exact inMode_bookChange _ fun hm => .of_effect (.build hm)
  | nodeGet k =>
    cases h
    refine inMode_bookChange _ fun _ => .of_same ?_
    split <;> constructor <;> rfl
  | cbClear => cases h; exact inMode_bookChange _ fun hm => .of_effect (.codebookClear hm)
  | cbGet b =>
    cases h
    refine inMode_bookChange _ fun _ => .of_same ?_
    split <;> constructor <;> rfl
  | cbEmit => cases h; exact inMode_bookChange _ fun _ => .of_same (by constructor <;> rfl)
  | cbLoad => cases h; exact inMode_bookChange _ fun hm => .of_effect (.loadStart hm)
  | encBegin => cases h; exact inMode_bookChange _ fun hm => .of_same (by constructor <;> simp [hm])
  | encFlush =>
    cases h
    refine inMode_bookChange _ fun hm => .of_same ?_
    rcases s.bitFlush_cases with ⟨-, he⟩ | ⟨-, he⟩ <;> rw [he] <;> constructor <;> simp [hm]
  | decBegin => cases h; exact inMode_bookChange _ State.decodeBegin_bookChange
  | ctrlSoftReset => cases h; exact ⟨State.reset, .reset, .toReset s⟩
  | ctrlAbort clear =>
    cases h
    cases clear with
    | false => exact s.abort_bookChange
    | true => exact s.abort_bookChange.trans_same s.abort.clearErr_sameBook
  | ctrlClearErr => cases h; exact .of_same s.clearErr_sameBook

/-! ### Steps -/

theorem dispatchEntry_bookChange {e : Entry} {s t : State} (h : dispatchEntry e s = .next t) : BookChange s t := by
  rcases dispatchEntry_cases h with ⟨i, -, hi⟩ | ⟨r, -, rfl⟩
  · exact exec_bookChange hi
  · exact .errorEntry ..

theorem State.complete_sameBook (s : State) : SameBook s s.complete := by constructor <;> rfl

/-- A change from a state that differs from `s` outside the memories, the codebook and its parser. -/
def BookMove (s t : State) : Prop := ∃ u, SameBook s u ∧ BookChange u t

theorem BookMove.of_change {s t : State} (h : BookChange s t) : BookMove s t := ⟨s, .refl s, h⟩

theorem blockMove_bookMove {s t : State} (h : blockMove s = .next t) : BookMove s t := by
  rcases blockMove_cases h with ⟨e, rest, u, -, -, -, hu, rfl⟩ | ⟨-, -, rfl⟩ | ⟨-, rfl⟩
  · exact ⟨s.dequeue, by constructor <;> rfl, (dispatchEntry_bookChange hu).trans_same u.complete_sameBook⟩
  · exact .of_change (.of_same (by constructor <;> rfl))
  · exact .of_change (.of_effect .keep)

theorem ctrlWrite_bookChange {w : Word} {s t : State} (h : ctrlWrite w s = .next t) : BookChange s t := by
  rcases ctrlWrite_cases h with ⟨i, -, hi⟩ | ⟨-, rfl⟩
  · exact exec_bookChange hi
  · exact .of_effect .keep

theorem State.hostRead_sameBook (s : State) (o : Nat) : SameBook s (s.hostRead o) := by
  unfold State.hostRead Reg.readEffect
  split <;> constructor <;> rfl

theorem State.portWrite_bookChange (s : State) (p : Port) (v : Word) : BookChange s (s.portWrite p v) := by
  unfold State.portWrite
  split
  · exact .of_effect .keep
  · split
    · exact .errorEntry ..
    · exact .of_same (by constructor <;> rfl)

theorem State.regWrite_bookChange (s : State) (r : Reg) (v : Word) : BookChange s (s.regWrite r v) := by
  unfold State.regWrite
  split
  · exact s.portWrite_bookChange _ v
  · split <;> exact .of_same (by constructor <;> rfl)

theorem hostMove_bookMove {s t : State} (h : hostMove s = .next t) : BookMove s t := by
  rcases hostMove_cases h with ⟨-, rfl⟩ | ⟨a, rest, -, -, h⟩
  · exact .of_change (.of_effect .keep)
  · refine ⟨{ s with accesses := rest }, by constructor <;> rfl, ?_⟩
    rcases h with ⟨-, rfl⟩ | ⟨w, -, -, hw⟩ | ⟨w, -, -, rfl⟩
    · exact .of_same (State.hostRead_sameBook ..)
    · exact ctrlWrite_bookChange hw
    · exact State.regWrite_bookChange ..

/-- What a step does to the memories, the codebook and its parser. -/
theorem step_bookMove {s t : State} (h : step s = .next t) : BookMove s t := by
  have hs : SameBook s { s with turns := s.turns.tail } := by constructor <;> rfl
  rcases step_cases h with ⟨-, h⟩ | ⟨-, h⟩ | ⟨-, rfl⟩
  · obtain ⟨u, hu, hc⟩ := blockMove_bookMove h
    exact ⟨u, hs.trans hu, hc⟩
  · obtain ⟨u, hu, hc⟩ := hostMove_bookMove h
    exact ⟨u, hs.trans hu, hc⟩
  · exact .of_change ⟨State.reset, .reset, .toReset ..⟩

/-- What every effect on the memories, the codebook and its parser leads from `P` to `Q`, every step does, when `P` and `Q` speak of
that part of the state only. -/
theorem step_keeps {P Q : State → Prop} (hP : ∀ {s t}, SameBook s t → P s → P t) (hQ : ∀ {s t}, SameBook s t → Q s → Q t)
    (hPQ : ∀ {s t}, BookEffect s t → P s → Q t) {s t : State} (h : step s = .next t) (hs : P s) : Q t :=
  let ⟨_, hsu, _, huv, hvt⟩ := step_bookMove h
  hQ hvt (hPQ huv (hP hsu hs))

end Sys2Proof.Machine

/-! ## The tree of BUILD

The arena that the loop of 43_tree_builder.md R112 leaves is read as a tree (`CodeTree.At`). The loop keeps a forest, one tree for each
node of PQ, whose leaves together are the counted symbols; `walk` writes the codes of the one tree that is left. -/

namespace Sys2Proof.Machine

/-- A tree of R112 by its shape: symbols at the leaves, two children at every other node. -/
inductive CodeTree where
  | leaf (sym : Byte)
  | join (l r : CodeTree)

namespace CodeTree

/-- The symbols at the leaves, from left to right. -/
def syms : CodeTree → List Byte
  | leaf b => [b]
  | join l r => l.syms ++ r.syms

/-- The number of edges on the longest path down. -/
def depth : CodeTree → Nat
  | leaf _ => 0
  | join l r => max l.depth r.depth + 1

/-- The symbols with the paths to them, each path after `p`. -/
def codes : CodeTree → Bits → List (Byte × Bits)
  | leaf b, p => [(b, p)]
  | join l r, p => l.codes (p ++ [false]) ++ r.codes (p ++ [true])

/-- The tree stands in the arena with its root at index `i`, every child before its parent. -/
def At (node : Memory Node) : CodeTree → Nat → Prop
  | leaf b, i => (Memory.read Node.zero node i).leaf = true ∧ (Memory.read Node.zero node i).sym = b
  | join l r, i =>
    (Memory.read Node.zero node i).leaf = false ∧
    (Memory.read Node.zero node i).left.toNat < i ∧ (Memory.read Node.zero node i).right.toNat < i ∧
    l.At node (Memory.read Node.zero node i).left.toNat ∧ r.At node (Memory.read Node.zero node i).right.toNat

theorem depth_lt_length_syms (t : CodeTree) : t.depth < t.syms.length := by
  induction t with
  | leaf b => exact Nat.zero_lt_one
  | join l r hl hr =>
    simp only [depth, syms, List.length_append]
    omega

theorem map_fst_codes (t : CodeTree) (p : Bits) : (t.codes p).map Prod.fst = t.syms := by
  induction t generalizing p with
  | leaf b => rfl
  | join l r hl hr => simp [codes, syms, hl, hr]

theorem exists_mem_codes {t : CodeTree} {b : Byte} (h : b ∈ t.syms) (p : Bits) : ∃ c, (b, c) ∈ t.codes p := by
  rw [← t.map_fst_codes p] at h
  obtain ⟨⟨_, c⟩, hc, rfl⟩ := List.mem_map.1 h
  exact ⟨c, hc⟩

/-- Every path begins with the path to the root and goes down at most `depth` edges. -/
theorem prefix_of_mem_codes {t : CodeTree} {p c : Bits} {b : Byte} (h : (b, c) ∈ t.codes p) :
    p <+: c ∧ c.length ≤ p.length + t.depth := by
  induction t generalizing p with
  | leaf a =>
    obtain ⟨rfl, rfl⟩ : b = a ∧ c = p := by simpa [codes] using h
    exact ⟨List.prefix_rfl, Nat.le_add_right ..⟩
  | join l r hl hr =>
    have hd : (join l r).depth = max l.depth r.depth + 1 := rfl
    rcases List.mem_append.1 h with h | h
    · obtain ⟨hp, hlen⟩ := hl h
      exact ⟨(List.prefix_append ..).trans hp, by simp only [List.length_append, List.length_singleton] at hlen; omega⟩
    · obtain ⟨hp, hlen⟩ := hr h
      exact ⟨(List.prefix_append ..).trans hp, by simp only [List.length_append, List.length_singleton] at hlen; omega⟩

/-- Two paths that begin with different bits after `p` are no prefixes of each other. -/
theorem not_prefix_of_branch {p c d : Bits} {x y : Bool} (hxy : x ≠ y) (hc : p ++ [x] <+: c) (hd : p ++ [y] <+: d) : ¬ c <+: d := by
  intro h
  have h2 := List.prefix_of_prefix_length_le (hc.trans h) hd (by simp)
  have := h2.eq_of_length (by simp)
  simp [hxy] at this

/-- The paths to two different symbols are no prefixes of each other, when each symbol stands at one leaf (R116). -/
theorem eq_of_prefix {t : CodeTree} (hn : t.syms.Nodup) {p c d : Bits} {a b : Byte} (ha : (a, c) ∈ t.codes p) (hb : (b, d) ∈ t.codes p)
    (h : c <+: d) : a = b := by
  induction t generalizing p with
  | leaf e => simp_all [codes]
  | join l r hl hr =>
    obtain ⟨nl, nr, -⟩ := List.nodup_append.1 hn
    rcases List.mem_append.1 ha with ha | ha <;> rcases List.mem_append.1 hb with hb | hb
    · exact hl nl ha hb
    · exact absurd h (not_prefix_of_branch (by decide) (prefix_of_mem_codes ha).1 (prefix_of_mem_codes hb).1)
    · exact absurd h (not_prefix_of_branch (by decide) (prefix_of_mem_codes ha).1 (prefix_of_mem_codes hb).1)
    · exact hr nr ha hb

/-- A write above the root does not change the tree. -/
theorem At.write {node : Memory Node} {size : Nat} (hw : Memory.wf Node.zero size node = true) {t : CodeTree} {i next : Nat} (hi : i < next)
    (h : t.At node i) (v : Node) : t.At (Memory.write Node.zero node next v) i := by
  induction t generalizing i with
  | leaf b => simpa only [At, Memory.read_write hw, if_neg (Nat.ne_of_lt hi)] using h
  | join l r hl hr =>
    obtain ⟨h0, h1, h2, h3, h4⟩ := h
    simp only [At, Memory.read_write hw, if_neg (Nat.ne_of_lt hi)]
    exact ⟨h0, h1, h2, hl (by omega) h3, hr (by omega) h4⟩

end CodeTree

/-! ### The codes that Walk writes -/

/-- The code of a path: the path, or "0" when it is empty (R112). -/
def codeOfPath (p : Bits) : Bits := if p.isEmpty then [false] else p

/-- Walk at a leaf: the LUT with the code of a symbol's path (R112). -/
def writeCode (lut : Memory LutEntry) (c : Byte × Bits) : Memory LutEntry :=
  Memory.write LutEntry.absent lut c.1.toNat (LutEntry.ofCode (codeOfPath c.2))

theorem writeCode_wf {lut : Memory LutEntry} (h : Memory.wf LutEntry.absent 256 lut = true) (c : Byte × Bits) :
    Memory.wf LutEntry.absent 256 (writeCode lut c) = true :=
  Memory.write_wf h c.1.isLt

theorem read_writeCode {lut : Memory LutEntry} (h : Memory.wf LutEntry.absent 256 lut = true) (c : Byte × Bits) (b : Byte) :
    Memory.read LutEntry.absent (writeCode lut c) b.toNat =
      if b = c.1 then LutEntry.ofCode (codeOfPath c.2) else Memory.read LutEntry.absent lut b.toNat := by
  simp only [writeCode, Memory.read_write h, BitVec.toNat_inj]

/-- Walk over a tree of the arena writes the codes of its leaves, from left to right. -/
theorem walk_eq_foldl {node : Memory Node} {t : CodeTree} {i : Nat} (h : t.At node i) {n : Nat} (hn : t.depth < n) (p : Bits)
    (lut : Memory LutEntry) : walk n node i p lut = (t.codes p).foldl writeCode lut := by
  induction t generalizing i n p lut with
  | leaf b =>
    obtain ⟨m, rfl⟩ : ∃ m, n = m + 1 := ⟨n - 1, by omega⟩
    obtain ⟨hl, rfl⟩ := h
    rw [walk, if_pos hl]
    rfl
  | join l r hl hr =>
    obtain ⟨m, rfl⟩ : ∃ m, n = m + 1 := ⟨n - 1, by omega⟩
    obtain ⟨h0, -, -, h3, h4⟩ := h
    simp only [CodeTree.depth] at hn
    rw [walk, if_neg (by simp [h0]), hl h3 (by omega), hr h4 (by omega), CodeTree.codes, List.foldl_append]

/-- A symbol with no code among the written ones keeps its entry. -/
theorem read_foldl_writeCode_of_notMem {cs : List (Byte × Bits)} {b : Byte} (hb : b ∉ cs.map Prod.fst) {lut : Memory LutEntry}
    (h : Memory.wf LutEntry.absent 256 lut = true) :
    Memory.read LutEntry.absent (cs.foldl writeCode lut) b.toNat = Memory.read LutEntry.absent lut b.toNat := by
  induction cs generalizing lut with
  | nil => rfl
  | cons c cs ih =>
    obtain ⟨hbc, hb⟩ := not_or.1 (mt List.mem_cons.2 hb)
    rw [List.foldl_cons, ih hb (writeCode_wf h c), read_writeCode h, if_neg hbc]

/-- A symbol with one code among the written ones has that code. -/
theorem read_foldl_writeCode_of_mem {cs : List (Byte × Bits)} (hn : (cs.map Prod.fst).Nodup) {b : Byte} {c : Bits} (hb : (b, c) ∈ cs)
    {lut : Memory LutEntry} (h : Memory.wf LutEntry.absent 256 lut = true) :
    Memory.read LutEntry.absent (cs.foldl writeCode lut) b.toNat = LutEntry.ofCode (codeOfPath c) := by
  induction cs generalizing lut with
  | nil => cases hb
  | cons e cs ih =>
    obtain ⟨he, hn⟩ := List.nodup_cons.1 hn
    rcases List.mem_cons.1 hb with rfl | hb
    · rw [List.foldl_cons, read_foldl_writeCode_of_notMem he (writeCode_wf h _), read_writeCode h, if_pos rfl]
    · exact ih hn hb (writeCode_wf h e)

/-! ### The loop of BUILD -/

theorem leastOf_mem (node : Memory Node) (i : Nat) (is : List Nat) : leastOf node i is ∈ i :: is := by
  induction is generalizing i with
  | nil => exact List.mem_singleton.2 rfl
  | cons j js ih =>
    rw [leastOf]
    split
    · exact List.mem_cons_of_mem _ (ih j)
    · exact (List.cons_subset_cons i (List.subset_cons_self j js)) (ih i)

/-- Extraction splits PQ into the element and the rest. -/
theorem extractLeast_perm {node : Memory Node} {pq pq' : List Nat} {i : Nat} (h : extractLeast node pq = some (i, pq')) :
    pq.Perm (i :: pq') := by
  cases pq with
  | nil => cases h
  | cons j js =>
    obtain ⟨rfl, rfl⟩ := Prod.mk.inj (Option.some.inj h)
    exact List.perm_cons_erase (leastOf_mem node j js)

/-- Extraction fails from an empty PQ only. -/
theorem extractLeast_eq_none {node : Memory Node} {pq : List Nat} (h : extractLeast node pq = none) : pq = [] := by
  cases pq with
  | nil => rfl
  | cons j js => cases h

/-- The nodes of `pq`, all below `next`, are the roots of the trees `ts`. -/
def Forest (node : Memory Node) (next : Nat) (pq : List Nat) (ts : List CodeTree) : Prop :=
  List.Forall₂ (fun i t => i < next ∧ t.At node i) pq ts

/-- The loop's state for the symbols `syms`: the arena in canonical form, and over it a forest whose leaves are the symbols. Each turn
takes one element from PQ and adds one node. -/
structure JoinInv (syms : List Byte) (node : Memory Node) (pq : List Nat) (next : Nat) : Prop where
  wf : Memory.wf Node.zero 511 node = true
  size : next + pq.length = 2 * syms.length
  forest : ∃ ts, Forest node next pq ts ∧ (ts.flatMap CodeTree.syms).Perm syms

/-- A node written at `next` leaves the forest below it as it is. -/
theorem Forest.write {node : Memory Node} {next : Nat} {pq : List Nat} {ts : List CodeTree} (h : Forest node next pq ts)
    (hw : Memory.wf Node.zero 511 node = true) (v : Node) : Forest (Memory.write Node.zero node next v) (next + 1) pq ts :=
  h.imp fun _ _ ⟨hi, ht⟩ => ⟨by omega, ht.write hw hi v⟩

/-- The forest over a rearranged PQ is the rearranged forest. -/
theorem Forest.perm {node : Memory Node} {next : Nat} {pq pq' : List Nat} {ts : List CodeTree} (h : Forest node next pq ts)
    (hp : pq.Perm pq') : ∃ ts', Forest node next pq' ts' ∧ ts'.Perm ts :=
  List.perm_comp_forall₂ hp.symm h

/-- The forest with the tree of a node written at `next`. -/
theorem Forest.snoc {node : Memory Node} {next : Nat} {pq : List Nat} {ts : List CodeTree} (h : Forest node next pq ts)
    (hw : Memory.wf Node.zero 511 node = true) {v : Node} {t : CodeTree} (ht : t.At (Memory.write Node.zero node next v) next) :
    Forest (Memory.write Node.zero node next v) (next + 1) (pq ++ [next]) (ts ++ [t]) :=
  List.rel_append (h.write hw v) (.cons ⟨Nat.lt_succ_self next, ht⟩ .nil)

/-- One turn of the loop keeps its invariant. -/
theorem JoinInv.join {syms : List Byte} {node : Memory Node} {pq pq1 pq2 : List Nat} {next i j : Nat} (h : JoinInv syms node pq next)
    (hn : syms.length ≤ 256) (h1 : pq.Perm (i :: pq1)) (h2 : pq1.Perm (j :: pq2)) :
    JoinInv syms (Memory.write Node.zero node next (joinNode node i j)) (pq2 ++ [next]) (next + 1) := by
  obtain ⟨hw, hs, ts, hf, hp⟩ := h
  obtain ⟨ts', hf', hp'⟩ := hf.perm (h1.trans (h2.cons i))
  obtain ⟨ti, _, hi, hf1, rfl⟩ := List.forall₂_cons_left_iff.1 hf'
  obtain ⟨tj, ts', hj, hf2, rfl⟩ := List.forall₂_cons_left_iff.1 hf1
  have hlen := (h1.trans (h2.cons i)).length_eq
  simp only [List.length_cons] at hlen
  have hnext : next < 511 := by omega
  have hl : (joinNode node i j).left.toNat = i := by simp only [joinNode, BitVec.toNat_ofNat]; omega
  have hr : (joinNode node i j).right.toNat = j := by simp only [joinNode, BitVec.toNat_ofNat]; omega
  refine ⟨Memory.write_wf hw hnext, by simp only [List.length_append, List.length_singleton]; omega, ts' ++ [.join ti tj], ?_, ?_⟩
  · refine Forest.snoc hf2 hw ?_
    simp only [CodeTree.At, Memory.read_write hw, if_true, hl, hr]
    exact ⟨rfl, hi.1, hj.1, hi.2.write hw hi.1 _, hj.2.write hw hj.1 _⟩
  · refine List.Perm.trans ?_ ((hp'.flatMap_right _).trans hp)
    simp only [List.flatMap_append, List.flatMap_cons, List.flatMap_nil, CodeTree.syms, List.append_nil]
    rw [← List.append_assoc ti.syms]
    exact List.perm_append_comm

/-- The loop keeps its invariant and ends with one element in PQ. -/
theorem joinLoop_joinInv {syms : List Byte} (hn : syms.length ≤ 256) {k : Nat} {node : Memory Node} {pq : List Nat} {next : Nat}
    (h : JoinInv syms node pq next) (h0 : pq ≠ []) (hk : pq.length ≤ k) :
    JoinInv syms (joinLoop k node pq next).1 (joinLoop k node pq next).2.1 (joinLoop k node pq next).2.2 ∧
      ∃ root, (joinLoop k node pq next).2.1 = [root] := by
  induction k generalizing node pq next with
  | zero => exact absurd (List.length_eq_zero_iff.1 (Nat.le_zero.1 hk)) h0
  | succ k ih =>
    rw [joinLoop]
    split
    · next h1 => exact absurd (extractLeast_eq_none h1) h0
    · next i pq1 h1 =>
      have h1 := extractLeast_perm h1
      split
      · next h2 =>
        rw [extractLeast_eq_none h2] at h1
        exact ⟨h, i, List.perm_singleton.1 h1⟩
      · next j pq2 h2 =>
        have h2 := extractLeast_perm h2
        have hlen := (h1.trans (h2.cons i)).length_eq
        refine ih (h.join hn h1 h2) (by simp) ?_
        simp only [List.length_cons, List.length_append, List.length_nil] at hlen ⊢
        omega

theorem leafNodes_snoc (hist : Memory (BitVec 64)) (syms : List Nat) (b : Nat) :
    leafNodes hist (syms ++ [b]) = Memory.write Node.zero (leafNodes hist syms) syms.length (leafNode hist b) := by
  simp [leafNodes, List.zipIdx_append, List.foldl_append]

/-- The leaves are a forest of one-leaf trees, where the loop begins. -/
theorem leafNodes_joinInv (hist : Memory (BitVec 64)) {syms : List Nat} (hn : syms.length ≤ 256) :
    JoinInv (syms.map (BitVec.ofNat 8)) (leafNodes hist syms) (List.range syms.length) syms.length := by
  induction syms using List.reverseRecOn with
  | nil => exact ⟨rfl, rfl, [], .nil, .nil⟩
  | append_singleton syms b ih =>
    rw [List.length_append, List.length_singleton] at hn ⊢
    obtain ⟨hw, -, ts, hf, hp⟩ := ih (by omega)
    rw [leafNodes_snoc, List.range_succ]
    refine ⟨Memory.write_wf hw (by omega), by simp; omega, ts ++ [.leaf (BitVec.ofNat 8 b)], ?_, ?_⟩
    · refine hf.snoc hw ?_
      simp [CodeTree.At, Memory.read_write hw, leafNode]
    · simpa [CodeTree.syms] using hp.append_right [BitVec.ofNat 8 b]

/-! ### The state that BUILD leaves -/

/-- What BUILD leaves when there is a symbol: a tree in the arena whose leaves are the counted symbols, each once, its codes in the LUT, and
the counters (R112). -/
structure Built (s u : State) (t : CodeTree) : Prop where
  at_root : t.At u.node u.treeIndex.toNat
  syms_perm : t.syms.Perm s.countedSymbols
  node_wf : Memory.wf Node.zero 511 u.node = true
  lut_eq_walk : u.lut = walk 256 u.node u.treeIndex.toNat [] []
  nodeCount : u.nodeCount.toNat + 1 = 2 * s.countedSymbols.length
  cbCount : u.cbCount.toNat = s.countedSymbols.length
  cbMaxlen : u.cbMaxlen.toNat = (s.countedSymbols.map fun b => (u.lutAt b).len.toNat).foldl max 0

theorem State.countedSymbols_eq (s : State) : s.countedSymbols = (presentSymbols s.hist).map (BitVec.ofNat 8) := by
  rw [State.countedSymbols, List.filter_map, presentSymbols]
  refine congrArg (List.map _) (List.filter_congr fun b hb => ?_)
  rw [Function.comp_apply, State.histAt, BitVec.toNat_ofNat, Nat.mod_eq_of_lt (List.mem_range.1 hb)]

theorem length_presentSymbols_le (hist : Memory (BitVec 64)) : (presentSymbols hist).length ≤ 256 :=
  (List.length_filter_le ..).trans (List.length_range).le

theorem State.length_countedSymbols_le (s : State) : s.countedSymbols.length ≤ 256 := by
  rw [s.countedSymbols_eq, List.length_map]
  exact length_presentSymbols_le _

/-- The list of all bytes, in ascending order, has no byte twice. -/
theorem nodup_bytes : ((List.range 256).map (BitVec.ofNat 8)).Nodup := by
  refine List.Nodup.map_on (fun a ha b hb h => ?_) List.nodup_range
  have := congrArg BitVec.toNat h
  rwa [BitVec.toNat_ofNat, BitVec.toNat_ofNat, Nat.mod_eq_of_lt (List.mem_range.1 ha), Nat.mod_eq_of_lt (List.mem_range.1 hb)] at this

theorem mem_bytes (b : Byte) : b ∈ (List.range 256).map (BitVec.ofNat 8) :=
  List.mem_map.2 ⟨b.toNat, List.mem_range.2 b.isLt, by simp⟩

theorem State.nodup_countedSymbols (s : State) : s.countedSymbols.Nodup := nodup_bytes.filter _

theorem State.mem_countedSymbols {s : State} {b : Byte} : b ∈ s.countedSymbols ↔ s.histAt b ≠ 0 := by
  simp [State.countedSymbols, mem_bytes]

/-- An upper bound of a list bounds its maximum. -/
theorem foldl_max_le {l : List Nat} {m : Nat} (h : ∀ x ∈ l, x ≤ m) {a : Nat} (ha : a ≤ m) : l.foldl max a ≤ m := by
  induction l generalizing a with
  | nil => exact ha
  | cons x l ih => exact ih (fun y hy => h y (List.mem_cons_of_mem x hy)) (max_le ha (h x List.mem_cons_self))

theorem maxLen_eq (lut : Memory LutEntry) (syms : List Nat) :
    maxLen lut syms = (syms.map fun b => (Memory.read LutEntry.absent lut b).len.toNat).foldl max 0 := by
  rw [maxLen, List.foldl_map]

theorem maxLen_lt (lut : Memory LutEntry) (syms : List Nat) : maxLen lut syms < 512 := by
  rw [maxLen_eq]
  refine Nat.lt_succ_of_le (foldl_max_le (fun x hx => ?_) (Nat.zero_le _))
  obtain ⟨b, -, rfl⟩ := List.mem_map.1 hx
  exact Nat.le_of_lt_succ (BitVec.isLt _)

/-- The largest LEN that BUILD takes over the numbers of the counted symbols is the largest over the symbols themselves. -/
theorem maxLen_presentSymbols (s : State) (lut : Memory LutEntry) :
    maxLen lut (presentSymbols s.hist) =
      (s.countedSymbols.map fun b => (Memory.read LutEntry.absent lut b.toNat).len.toNat).foldl max 0 := by
  rw [maxLen_eq, s.countedSymbols_eq, List.map_map]
  refine congrArg (List.foldl max 0) (List.map_congr_left fun b hb => ?_)
  have hb : b < 2 ^ 8 := List.mem_range.1 (List.mem_filter.1 hb).1
  rw [Function.comp_apply, BitVec.toNat_ofNat, Nat.mod_eq_of_lt hb]

theorem State.buildTree_of_nil {s : State} (h : presentSymbols s.hist = []) : s.buildTree = s.clearCodebook := by
  simp [State.buildTree, h]

/-- What the loop of R112 ends with: the arena, PQ and the number of nodes. -/
def State.joined (s : State) : Memory Node × List Nat × Nat :=
  joinLoop (presentSymbols s.hist).length (leafNodes s.hist (presentSymbols s.hist))
    (List.range (presentSymbols s.hist).length) (presentSymbols s.hist).length

theorem State.buildTree_of_ne_nil {s : State} (h : presentSymbols s.hist ≠ []) {root : Nat} (hr : s.joined.2.1 = [root]) :
    s.buildTree = { s with
      node := s.joined.1, nodeCount := BitVec.ofNat 10 s.joined.2.2, treeValid := true, treeIndex := BitVec.ofNat 9 root,
      lut := walk 256 s.joined.1 root [] [], cbCount := BitVec.ofNat 9 (presentSymbols s.hist).length,
      cbMaxlen := BitVec.ofNat 9 (maxLen (walk 256 s.joined.1 root [] []) (presentSymbols s.hist)) } := by
  unfold State.joined at hr ⊢
  simp [State.buildTree, h, hr]

/-- The loop of R112 ends with one root, over the counted symbols. -/
theorem State.joined_joinInv {s : State} (h : presentSymbols s.hist ≠ []) :
    JoinInv s.countedSymbols s.joined.1 s.joined.2.1 s.joined.2.2 ∧ ∃ root, s.joined.2.1 = [root] := by
  have hn := length_presentSymbols_le s.hist
  rw [s.countedSymbols_eq]
  exact joinLoop_joinInv (by simpa using hn) (leafNodes_joinInv s.hist hn) (by simpa using h) (by simp)

theorem State.exists_built {s : State} (h : presentSymbols s.hist ≠ []) : ∃ t, Built s s.buildTree t := by
  obtain ⟨⟨hw, hs, ts, hf, hp⟩, root, hr⟩ := State.joined_joinInv h
  rw [hr] at hf
  obtain ⟨t, _, ⟨hi, ht⟩, hnil, rfl⟩ := List.forall₂_cons_left_iff.1 hf
  cases hnil
  have hlen := s.length_countedSymbols_le
  have hcount : (presentSymbols s.hist).length = s.countedSymbols.length := by rw [s.countedSymbols_eq, List.length_map]
  rw [hr, List.length_singleton] at hs
  have hroot : (BitVec.ofNat 9 root).toNat = root := by rw [BitVec.toNat_ofNat]; omega
  rw [State.buildTree_of_ne_nil h hr]
  refine ⟨t, ?_, by simpa using hp, hw, ?_, ?_, ?_, ?_⟩
  · simpa only [hroot] using ht
  · simp only [hroot]
  · simp only [BitVec.toNat_ofNat]; omega
  · simp only [BitVec.toNat_ofNat]; omega
  · exact (BitVec.toNat_ofNat ..).trans ((Nat.mod_eq_of_lt (maxLen_lt _ _)).trans (maxLen_presentSymbols s _))

section
variable {s u : State} {t : CodeTree} (h : Built s u t)
include h

theorem Built.nodup_syms : t.syms.Nodup := h.syms_perm.nodup_iff.2 s.nodup_countedSymbols

theorem Built.mem_syms {b : Byte} : b ∈ t.syms ↔ s.histAt b ≠ 0 := h.syms_perm.mem_iff.trans State.mem_countedSymbols

/-- The tree has at most 256 leaves, so no path is longer than 255. -/
theorem Built.depth_lt : t.depth < 256 :=
  Nat.lt_of_lt_of_le t.depth_lt_length_syms (h.syms_perm.length_eq ▸ s.length_countedSymbols_le)

theorem Built.lut_eq : u.lut = (t.codes []).foldl writeCode [] := by
  rw [h.lut_eq_walk, walk_eq_foldl h.at_root h.depth_lt]

/-- A symbol of the tree has the code of its path. -/
theorem Built.lutAt_of_mem {b : Byte} {c : Bits} (hc : (b, c) ∈ t.codes []) : u.lutAt b = LutEntry.ofCode (codeOfPath c) := by
  rw [State.lutAt, h.lut_eq]
  exact read_foldl_writeCode_of_mem (by rw [t.map_fst_codes]; exact h.nodup_syms) hc rfl

/-- A symbol that is not counted has no entry. -/
theorem Built.lutAt_of_notMem {b : Byte} (hb : b ∉ t.syms) : u.lutAt b = LutEntry.absent := by
  rw [State.lutAt, h.lut_eq, read_foldl_writeCode_of_notMem (by rwa [t.map_fst_codes]) rfl, Memory.read_nil]

theorem Built.valid_iff {b : Byte} : (u.lutAt b).valid = true ↔ s.histAt b ≠ 0 := by
  rw [← h.mem_syms]
  by_cases hb : b ∈ t.syms
  · obtain ⟨c, hc⟩ := CodeTree.exists_mem_codes hb []
    simp [hb, h.lutAt_of_mem hc, LutEntry.ofCode]
  · simp [hb, h.lutAt_of_notMem hb, LutEntry.absent]

/-- The symbols with a code are the counted ones (R112). -/
theorem Built.validSymbols_eq : u.validSymbols = s.countedSymbols :=
  List.filter_congr fun _ _ => Bool.eq_iff_iff.2 (h.valid_iff.trans (by simp))

/-- The code of a valid symbol is that of its path. -/
theorem Built.exists_path {b : Byte} (hb : (u.lutAt b).valid = true) :
    ∃ c, (b, c) ∈ t.codes [] ∧ u.lutAt b = LutEntry.ofCode (codeOfPath c) := by
  obtain ⟨c, hc⟩ := CodeTree.exists_mem_codes (h.mem_syms.2 (h.valid_iff.1 hb)) []
  exact ⟨c, hc, h.lutAt_of_mem hc⟩

theorem Built.codebookCounted : CodebookCounted u := by
  rw [CodebookCounted, h.validSymbols_eq]
  exact ⟨h.cbCount, h.cbMaxlen⟩

/-- Equal codes belong to one symbol: of two paths with equal codes one begins the other. -/
theorem Built.codesDistinct : CodesDistinct u := by
  intro a b ha hb _ hcode
  obtain ⟨c, hc, hac⟩ := h.exists_path ha
  obtain ⟨d, hd, hbd⟩ := h.exists_path hb
  simp only [hac, hbd, LutEntry.ofCode, codeOfPath, List.isEmpty_iff] at hcode
  by_cases h0 : c = []
  · exact CodeTree.eq_of_prefix h.nodup_syms hc hd (h0 ▸ List.nil_prefix)
  · by_cases h1 : d = []
    · exact (CodeTree.eq_of_prefix h.nodup_syms hd hc (h1 ▸ List.nil_prefix)).symm
    · rw [if_neg h0, if_neg h1] at hcode
      exact CodeTree.eq_of_prefix h.nodup_syms hc hd (hcode ▸ List.prefix_rfl)

end

end Sys2Proof.Machine

/-! ## The invariants of the memories and the codebook -/

namespace Sys2Proof.Machine

/-! ### The invariants speak of the memories, the codebook and its parser only -/

section
variable {s t : State} (h : SameBook s t)
include h

theorem SameBook.lutAt_eq (b : Byte) : t.lutAt b = s.lutAt b := by rw [State.lutAt, h.lut]; rfl

theorem SameBook.validSymbols_eq : t.validSymbols = s.validSymbols := by simp only [State.validSymbols, h.lutAt_eq]

theorem SameBook.memoriesCanonical (hs : MemoriesCanonical s) : MemoriesCanonical t := by
  rwa [MemoriesCanonical, h.hist, h.node, h.lut]

theorem SameBook.lutSound (hs : LutSound s) : LutSound t := by simpa only [LutSound, h.lutAt_eq] using hs

theorem SameBook.parserSound (hs : ParserSound s) : ParserSound t := by
  simpa only [ParserSound, ne_eq, h.loading, h.phase, h.acc, h.idx, h.cntTotal, h.doneCount, h.csym, h.clen, h.ccode] using hs

theorem SameBook.codebookCounted (hs : CodebookCounted s) : CodebookCounted t := by
  simpa only [CodebookCounted, h.validSymbols_eq, h.lutAt_eq, h.cbCount, h.cbMaxlen] using hs

theorem SameBook.codesDistinct (hs : CodesDistinct s) : CodesDistinct t := by simpa only [CodesDistinct, h.lutAt_eq] using hs

theorem SameBook.loadCounted (hs : LoadCounted s) : LoadCounted t := by
  simpa only [LoadCounted, h.loading, h.phase, h.cntTotal, h.doneCount, h.csym, h.cbCount, h.treeValid, h.lutAt_eq] using hs

theorem SameBook.treeMatchesLut (hs : TreeMatchesLut s) : TreeMatchesLut t := by
  simpa only [TreeMatchesLut, h.loading, h.node, h.nodeCount, h.treeValid, h.treeIndex, h.lut, h.cbCount] using hs

end

/-! ### BUILD -/

/-- BUILD changes the arena, the LUT and their counters only (R112). -/
theorem State.buildTree_frame (s : State) :
    s.buildTree = { s with
      node := s.buildTree.node, nodeCount := s.buildTree.nodeCount, treeValid := s.buildTree.treeValid,
      treeIndex := s.buildTree.treeIndex, lut := s.buildTree.lut, cbCount := s.buildTree.cbCount,
      cbMaxlen := s.buildTree.cbMaxlen } := by
  simp only [State.buildTree]
  split <;> rfl

theorem State.buildTree_mode (s : State) : s.buildTree.mode = s.mode := by rw [s.buildTree_frame]

theorem State.buildTree_hist (s : State) : s.buildTree.hist = s.hist := by rw [s.buildTree_frame]

theorem State.buildTree_parserSound {s : State} (h : ParserSound s) : ParserSound s.buildTree := by
  rw [s.buildTree_frame]
  exact h

/-- BUILD clears the codebook or leaves a tree (R112). -/
theorem State.buildTree_cases (s : State) : s.buildTree = s.clearCodebook ∨ ∃ t, Built s s.buildTree t := by
  by_cases h : presentSymbols s.hist = []
  · exact .inl (State.buildTree_of_nil h)
  · exact .inr (State.exists_built h)

/-! ### The entry that ends a code -/

theorem State.mem_validSymbols {s : State} {b : Byte} : b ∈ s.validSymbols ↔ (s.lutAt b).valid = true := by
  simp [State.validSymbols, mem_bytes]

theorem State.nodup_validSymbols (s : State) : s.validSymbols.Nodup := nodup_bytes.filter _

theorem State.lutAt_committed {s : State} (h : MemoriesCanonical s) (code : Bits) (b : Byte) :
    (s.committed code).lutAt b = if b = s.csym then { valid := true, len := s.clen, code := code } else s.lutAt b := by
  simp only [State.lutAt, State.committed, Memory.read_write h.2.2, BitVec.toNat_inj]

/-- A key that matches nothing is the code of no valid entry (46_decoder.md R135). -/
theorem matchKey_eq_none {s : State} (hc : MemoriesCanonical s) {key : Bits} (h : matchKey s.lut key = none) (b : Byte)
    (hv : (s.lutAt b).valid = true) (hl : (s.lutAt b).len.toNat = key.length) : (s.lutAt b).code ≠ key := by
  intro hk
  have hmem : (b.toNat, s.lutAt b) ∈ s.lut :=
    (Memory.mem_iff_read hc.2.2 _ _).2 ⟨rfl, fun he => by simp [he, LutEntry.absent] at hv⟩
  have := List.find?_eq_none.1 (Option.map_eq_none_iff.1 h) _ hmem
  simp [hv, hl, hk] at this

/-- CB_COUNT and DONE do not wrap below 256. -/
theorem toNat_succ_of_lt {n : BitVec 9} (h : n.toNat < 256) : (n + 1).toNat = n.toNat + 1 := by
  rw [BitVec.toNat_add_of_lt (by simpa using (by omega : n.toNat + 1 < 512))]
  rfl

/-- The new entry's symbol joins the valid symbols. -/
theorem State.validSymbols_committed {s : State} (h : MemoriesCanonical s) (hn : (s.lutAt s.csym).valid = false) (code : Bits) :
    (s.committed code).validSymbols.Perm (s.csym :: s.validSymbols) := by
  refine (List.perm_ext_iff_of_nodup (State.nodup_validSymbols _) (List.nodup_cons.2 ⟨?_, s.nodup_validSymbols⟩)).2 fun b => ?_
  · simp [State.mem_validSymbols, hn]
  · rw [List.mem_cons, State.mem_validSymbols, State.mem_validSymbols, State.lutAt_committed h]
    by_cases hb : b = s.csym <;> simp [hb]

theorem State.codebookCounted_committed {s : State} (h : MemoriesCanonical s) (hn : (s.lutAt s.csym).valid = false)
    (hc : CodebookCounted s) (hlt : s.cbCount.toNat < 256) (code : Bits) : CodebookCounted (s.committed code) := by
  obtain ⟨hcount, hmax⟩ := hc
  have hp := State.validSymbols_committed h hn code
  constructor
  · rw [hp.length_eq, List.length_cons, ← hcount]
    exact toNat_succ_of_lt hlt
  · have hold : s.validSymbols.map (fun b => ((s.committed code).lutAt b).len.toNat) =
        s.validSymbols.map fun b => (s.lutAt b).len.toNat := by
      refine List.map_congr_left fun b hb => ?_
      rw [State.lutAt_committed h, if_neg]
      rintro rfl
      simp [State.mem_validSymbols, hn] at hb
    have hnew : ((s.committed code).lutAt s.csym).len = s.clen := by rw [State.lutAt_committed h, if_pos rfl]
    rw [(hp.map _).foldl_eq, List.map_cons, hold, hnew, List.foldl_cons, Nat.max_comm, List.foldl_assoc, ← hmax, State.committed]
    simp only
    split <;> omega

theorem State.codesDistinct_committed {s : State} (h : MemoriesCanonical s) (hd : CodesDistinct s) {code : Bits}
    (hl : code.length = s.clen.toNat) (hm : matchKey s.lut code = none) : CodesDistinct (s.committed code) := by
  have hnew := fun (b : Byte) hv (he : (s.lutAt b).len = s.clen) => matchKey_eq_none h hm b hv (by rw [he, hl])
  intro a b
  simp only [State.lutAt_committed h]
  by_cases ha : a = s.csym <;> by_cases hb : b = s.csym
  · intros; rw [ha, hb]
  · rw [if_pos ha, if_neg hb]
    intro _ hv he hc
    exact absurd hc.symm (hnew b hv he.symm)
  · rw [if_neg ha, if_pos hb]
    intro hv _ he hc
    exact absurd hc (hnew a hv he)
  · rw [if_neg ha, if_neg hb]
    exact hd a b

/-! ### The memories stay canonical -/

theorem LoadEffect.memoriesCanonical {s t : State} (h : LoadEffect s t) (hs : MemoriesCanonical s) : MemoriesCanonical t := by
  cases h with
  | raise c info => exact ⟨rfl, rfl, rfl⟩
  | entry code => exact ⟨hs.1, hs.2.1, Memory.write_wf hs.2.2 s.csym.isLt⟩
  | lastEntry code => exact ⟨hs.1, hs.2.1, Memory.write_wf hs.2.2 s.csym.isLt⟩
  | collect | countZero | count | sym | len | digit => exact hs

theorem State.clearCodebook_memoriesCanonical {s : State} (hs : MemoriesCanonical s) : MemoriesCanonical s.clearCodebook :=
  ⟨hs.1, rfl, rfl⟩

theorem State.buildTree_memoriesCanonical {s : State} (hs : MemoriesCanonical s) : MemoriesCanonical s.buildTree := by
  rcases s.buildTree_cases with he | ⟨t, ht⟩
  · exact he ▸ State.clearCodebook_memoriesCanonical hs
  · exact ⟨s.buildTree_hist ▸ hs.1, ht.node_wf, ht.lut_eq_walk ▸ walk_wf 256 _ _ [] rfl⟩

theorem BookEffect.memoriesCanonical {s t : State} (h : BookEffect s t) (hs : MemoriesCanonical s) : MemoriesCanonical t := by
  cases h with
  | keep => exact hs
  | reset => exact ⟨rfl, rfl, rfl⟩
  | histWrite b v => exact ⟨State.setHist_wf hs.1 b v, hs.2⟩
  | histClear => exact ⟨rfl, hs.2⟩
  | codebookClear => exact State.clearCodebook_memoriesCanonical hs
  | loadStart => exact ⟨hs.1, rfl, rfl⟩
  | build => exact State.buildTree_memoriesCanonical hs
  | load _ h => exact h.memoriesCanonical hs

/-- Settles O52: the writes keep the canonical form, and BUILD writes at most 511 nodes. -/
theorem memoriesStayCanonical : Obligations.MemoriesStayCanonical := fun _ _ hs h =>
  step_keeps SameBook.memoriesCanonical SameBook.memoriesCanonical BookEffect.memoriesCanonical h hs

/-! ### A valid tree keeps matching the LUT -/

theorem TreeMatchesLut.of_invalid {s : State} (h : s.treeValid = false) : TreeMatchesLut s :=
  ⟨fun ht => absurd (h.symm.trans ht) Bool.false_ne_true, fun _ => h⟩

/-- A load makes no tree valid. -/
theorem LoadEffect.treeValid {s t : State} (h : LoadEffect s t) (hs : s.treeValid = false) : t.treeValid = false := by
  cases h with
  | raise => rfl
  | collect | countZero | count | sym | len | digit | entry | lastEntry => exact hs

theorem Built.treeMatchesLut {s u : State} {t : CodeTree} (h : Built s u t) (hm : u.mode ≠ .cbLoad) : TreeMatchesLut u :=
  ⟨fun _ => ⟨by rw [h.nodeCount, h.cbCount], h.lut_eq_walk⟩, fun hl => absurd hl hm⟩

theorem BookEffect.treeMatchesLut {s t : State} (h : BookEffect s t) (hs : TreeMatchesLut s) : TreeMatchesLut t := by
  cases h with
  | keep | histWrite | histClear => exact hs
  | reset | codebookClear | loadStart => exact .of_invalid rfl
  | build hm =>
    rcases s.buildTree_cases with he | ⟨t, ht⟩
    · exact he ▸ .of_invalid rfl
    · exact ht.treeMatchesLut (by simp [s.buildTree_mode, hm])
  | load hm h => exact .of_invalid (h.treeValid (hs.2 hm))

/-- Settles O58: BUILD makes the tree and the LUT together, and every other change to either takes VALID from the tree. -/
theorem validTreeKeepsMatchingTheLut : Obligations.ValidTreeKeepsMatchingTheLut := fun _ _ hs h =>
  step_keeps SameBook.treeMatchesLut SameBook.treeMatchesLut BookEffect.treeMatchesLut h hs

/-! ### The LUT entries and the parser stay sound -/

theorem LutEntry.sound_ofCode {c : Bits} (h1 : 1 ≤ c.length) (h2 : c.length ≤ 256) : (LutEntry.ofCode c).sound := by
  have hlen : (LutEntry.ofCode c).len.toNat = c.length := by simp only [LutEntry.ofCode, BitVec.toNat_ofNat]; omega
  exact .inl ⟨rfl, hlen.symm ▸ h1, hlen.symm ▸ h2, hlen.symm⟩

/-- The code of a path has at least one bit, and no more than the path when that has any. -/
theorem length_codeOfPath (p : Bits) : (codeOfPath p).length = max 1 p.length := by
  cases p with
  | nil => rfl
  | cons b p => simp [codeOfPath]

theorem LutSound.of_lut_nil {s : State} (h : s.lut = []) : LutSound s := fun b => .inr (by rw [State.lutAt, h]; rfl)

theorem Built.lutSound {s u : State} {t : CodeTree} (h : Built s u t) : LutSound u := by
  intro b
  by_cases hb : b ∈ t.syms
  · obtain ⟨c, hc⟩ := CodeTree.exists_mem_codes hb []
    have hlen := (CodeTree.prefix_of_mem_codes hc).2
    have hd := h.depth_lt
    rw [List.length_nil] at hlen
    rw [h.lutAt_of_mem hc]
    exact LutEntry.sound_ofCode (by rw [length_codeOfPath]; omega) (by rw [length_codeOfPath]; omega)
  · exact h.lutAt_of_notMem hb ▸ .inr rfl

theorem State.lutSound_committed {s : State} (hc : MemoriesCanonical s) (hs : LutSound s) {code : Bits}
    (hl : code.length = s.clen.toNat) (h1 : 1 ≤ s.clen.toNat) (h2 : s.clen.toNat ≤ 256) : LutSound (s.committed code) := by
  intro b
  rw [State.lutAt_committed hc]
  split
  · exact .inl ⟨rfl, h1, h2, hl⟩
  · exact hs b

theorem LoadEffect.lutSound {s t : State} (h : LoadEffect s t) (hc : MemoriesCanonical s) (hs : LutSound s) (hp : ParserSound s) :
    LutSound t := by
  cases h with
  | raise => exact .of_lut_nil rfl
  | entry code hd hl | lastEntry code hd hl =>
    obtain ⟨h1, h2, -⟩ := hp.2 hd
    exact State.lutSound_committed hc hs hl h1 h2
  | collect | countZero | count | sym | len | digit => exact hs

theorem BookEffect.lutSound {s t : State} (h : BookEffect s t) (hc : MemoriesCanonical s) (hs : LutSound s) (hp : ParserSound s) :
    LutSound t := by
  cases h with
  | keep | histWrite | histClear => exact hs
  | reset | codebookClear | loadStart => exact .of_lut_nil rfl
  | build =>
    rcases s.buildTree_cases with he | ⟨t, ht⟩
    · exact he ▸ .of_lut_nil rfl
    · exact ht.lutSound
  | load _ h => exact h.lutSound hc hs hp

/-- The parser at reset is sound in every mode. -/
theorem State.clearParser_parserSound (s : State) (m : Mode) : ParserSound { s.clearParser with mode := m } :=
  ⟨fun _ => ⟨rfl, rfl, rfl, rfl, rfl, rfl, rfl, rfl⟩, fun h => nomatch h⟩

theorem LoadEffect.parserSound {s t : State} (hm : s.mode = .cbLoad) (h : LoadEffect s t) (hp : ParserSound s) : ParserSound t := by
  cases h with
  | raise => exact State.clearParser_parserSound (State.errorEntry ..) .error
  | countZero | lastEntry => exact State.clearParser_parserSound _ .idle
  | collect => exact ⟨fun h => absurd hm h, hp.2⟩
  | count | sym | entry => exact ⟨fun h => absurd hm h, fun h => nomatch h⟩
  | len n _ h0 hn => exact ⟨fun h => absurd hm h, fun _ => ⟨h0, hn, h0⟩⟩
  | digit d hd hl =>
    obtain ⟨h1, h2, hlt⟩ := hp.2 hd
    rw [List.length_append, List.length_singleton] at hl
    refine ⟨fun h => absurd hm h, fun _ => ⟨h1, h2, ?_⟩⟩
    simp only [List.length_append, List.length_singleton]
    omega

theorem BookEffect.parserSound {s t : State} (h : BookEffect s t) (hp : ParserSound s) : ParserSound t := by
  cases h with
  | keep | histWrite | histClear | codebookClear => exact hp
  | reset => exact State.clearParser_parserSound .reset .idle
  | loadStart => exact State.clearParser_parserSound _ .cbLoad
  | build => exact State.buildTree_parserSound hp
  | load hm h => exact h.parserSound hm hp

/-- Settles O56: an entry is written with the length its code has, by a load in 1..256, by BUILD in 1..255. -/
theorem lutEntriesStaySound : Obligations.LutEntriesStaySound := fun _ _ hc hs hp h =>
  step_keeps (P := fun s => MemoriesCanonical s ∧ LutSound s ∧ ParserSound s) (Q := fun s => LutSound s ∧ ParserSound s)
    (fun h ⟨hc, hs, hp⟩ => ⟨h.memoriesCanonical hc, h.lutSound hs, h.parserSound hp⟩)
    (fun h ⟨hs, hp⟩ => ⟨h.lutSound hs, h.parserSound hp⟩)
    (fun h ⟨hc, hs, hp⟩ => ⟨h.lutSound hc hs hp, h.parserSound hp⟩) h ⟨hc, hs, hp⟩

/-! ### The codebook stays counted, its codes distinct -/

theorem State.validSymbols_of_lut_nil {s : State} (h : s.lut = []) : s.validSymbols = [] :=
  List.filter_eq_nil_iff.2 fun b _ => by simp [State.lutAt, h, LutEntry.absent]

theorem CodebookCounted.of_lut_nil {s : State} (h : s.lut = []) (hc : s.cbCount = 0) (hm : s.cbMaxlen = 0) : CodebookCounted s := by
  simp [CodebookCounted, State.validSymbols_of_lut_nil h, hc, hm]

theorem CodesDistinct.of_lut_nil {s : State} (h : s.lut = []) : CodesDistinct s := fun a _ ha => by
  simp [State.lutAt, h, LutEntry.absent] at ha

theorem LoadCounted.of_ne {s : State} (h : s.mode ≠ .cbLoad) : LoadCounted s := fun hm => absurd hm h

theorem LoadEffect.codebookCounted {s t : State} (hm : s.mode = .cbLoad) (h : LoadEffect s t) (hc : MemoriesCanonical s)
    (hb : CodebookCounted s) (hl : LoadCounted s) : CodebookCounted t := by
  obtain ⟨hdone, -, -, htotal, hsym⟩ := hl hm
  cases h with
  | raise => exact .of_lut_nil rfl rfl rfl
  | entry code hd | lastEntry code hd =>
    obtain ⟨hlt, h256⟩ := htotal (by simp [hd])
    exact State.codebookCounted_committed hc (hsym (.inr hd)) hb (by rw [hdone]; omega) code
  | collect | countZero | count | sym | len | digit => exact hb

theorem BookEffect.codebookCounted {s t : State} (h : BookEffect s t) (hc : MemoriesCanonical s) (hb : CodebookCounted s)
    (hl : LoadCounted s) : CodebookCounted t := by
  cases h with
  | keep | histWrite | histClear => exact hb
  | reset | codebookClear | loadStart => exact .of_lut_nil rfl rfl rfl
  | build =>
    rcases s.buildTree_cases with he | ⟨t, ht⟩
    · exact he ▸ .of_lut_nil rfl rfl rfl
    · exact ht.codebookCounted
  | load hm h => exact h.codebookCounted hm hc hb hl

theorem LoadEffect.codesDistinct {s t : State} (h : LoadEffect s t) (hc : MemoriesCanonical s) (hd : CodesDistinct s) :
    CodesDistinct t := by
  cases h with
  | raise => exact .of_lut_nil rfl
  | entry code _ hl hm | lastEntry code _ hl hm => exact State.codesDistinct_committed hc hd hl hm
  | collect | countZero | count | sym | len | digit => exact hd

theorem BookEffect.codesDistinct {s t : State} (h : BookEffect s t) (hc : MemoriesCanonical s) (hd : CodesDistinct s) :
    CodesDistinct t := by
  cases h with
  | keep | histWrite | histClear => exact hd
  | reset | codebookClear | loadStart => exact .of_lut_nil rfl
  | build =>
    rcases s.buildTree_cases with he | ⟨t, ht⟩
    · exact he ▸ .of_lut_nil rfl
    · exact ht.codesDistinct
  | load _ h => exact h.codesDistinct hc hd

/-- What `LoadCounted` asks after the count is in. -/
theorem LoadCounted.of_counted {s : State} (hdone : s.cbCount = s.doneCount) (htree : s.treeValid = false) (hp : s.phase ≠ .count)
    (hlt : s.doneCount.toNat < s.cntTotal.toNat ∧ s.cntTotal.toNat ≤ 256)
    (hsym : s.phase = .len ∨ s.phase = .digits → (s.lutAt s.csym).valid = false) : LoadCounted s :=
  fun _ => ⟨hdone, htree, fun h => absurd h hp, fun _ => hlt, hsym⟩

theorem LoadEffect.loadCounted {s t : State} (hm : s.mode = .cbLoad) (h : LoadEffect s t) (hl : LoadCounted s) : LoadCounted t := by
  obtain ⟨hdone, htree, hzero, htotal, hsym⟩ := hl hm
  cases h with
  | raise | countZero | lastEntry => exact .of_ne (by simp [State.loadFinish])
  | collect => exact hl
  | digit => exact hl
  | count n hp h0 hn =>
    refine .of_counted hdone htree (by simp) ⟨?_, hn⟩ (by simp)
    rw [hzero hp]
    exact Nat.pos_of_ne_zero h0
  | sym b hp hb => exact .of_counted hdone htree (by simp) (htotal (by simp [hp])) fun _ => hb
  | len n hp => exact .of_counted hdone htree (by simp) (htotal (by simp [hp])) fun _ => hsym (.inl hp)
  | entry code hp _ _ hne =>
    obtain ⟨hlt, h256⟩ := htotal (by simp [hp])
    have hdoneLt : (s.doneCount + 1).toNat < s.cntTotal.toNat :=
      Nat.lt_of_le_of_ne (by rw [toNat_succ_of_lt (by omega)]; omega) hne
    exact .of_counted (by simp [State.committed, hdone]) htree (by simp) ⟨hdoneLt, h256⟩ (by simp)

theorem BookEffect.loadCounted {s t : State} (h : BookEffect s t) (hl : LoadCounted s) : LoadCounted t := by
  cases h with
  | keep | histWrite | histClear => exact hl
  | reset => exact .of_ne (by decide)
  | codebookClear hm => exact .of_ne (by simp [hm])
  | loadStart => exact fun _ => ⟨rfl, rfl, fun _ => rfl, by simp, by simp⟩
  | build hm => exact .of_ne (by simp [s.buildTree_mode, hm])
  | load hm h => exact h.loadCounted hm hl

/-- Settles O57: a load commits an entry only for a new symbol and a new code, and the leaves of BUILD's tree are the counted symbols, each
once. -/
theorem codebookStaysCountedAndDistinct : Obligations.CodebookStaysCountedAndDistinct := fun _ _ hc _ _ hb hd hl h =>
  step_keeps (P := fun s => MemoriesCanonical s ∧ CodebookCounted s ∧ CodesDistinct s ∧ LoadCounted s)
    (Q := fun s => CodebookCounted s ∧ CodesDistinct s ∧ LoadCounted s)
    (fun h ⟨hc, hb, hd, hl⟩ => ⟨h.memoriesCanonical hc, h.codebookCounted hb, h.codesDistinct hd, h.loadCounted hl⟩)
    (fun h ⟨hb, hd, hl⟩ => ⟨h.codebookCounted hb, h.codesDistinct hd, h.loadCounted hl⟩)
    (fun h ⟨hc, hb, hd, hl⟩ => ⟨h.codebookCounted hc hb hl, h.codesDistinct hc hd, h.loadCounted hl⟩) h ⟨hc, hb, hd, hl⟩

end Sys2Proof.Machine

/-! ## The register window -/

namespace Sys2Proof.Machine

/-! ### Accesses at the offsets of the window -/

/-- A read at an aligned offset of the window is accepted (20_memory.md R52, R57). -/
theorem hostAccess_read (s : State) {o : Nat} (ha : o % 4 = 0) (ho : o < 256) :
    hostAccess { kind := .read, offset := (o : Int), width := 32 } s = .next (s.hostRead o) := by
  have h4 : (o : Int) % 4 = 0 := by omega
  have h256 : (o : Int) < 256 := by omega
  simp [hostAccess, Access.inWindow, Access.wordWide, Access.aligned, windowAccess, h4, h256]

/-- A write at an aligned offset of the window other than CTRL is a register write (20_memory.md R59). -/
theorem hostAccess_write (s : State) {o : Nat} (ha : o % 4 = 0) (ho : o < 256) (hr : regAt o ≠ .ctrl) (v : Word) :
    hostAccess { kind := .write v, offset := (o : Int), width := 32 } s = .next (s.regWrite (regAt o) v) := by
  have h4 : (o : Int) % 4 = 0 := by omega
  have h256 : (o : Int) < 256 := by omega
  simp [hostAccess, Access.inWindow, Access.wordWide, Access.aligned, windowAccess, h4, h256]

/-- An access outside the window is refused (20_memory.md R52). -/
theorem hostAccess_of_outside {a : Access} (h : a.offset < 0 ∨ 256 ≤ a.offset) (s : State) :
    hostAccess a s = .refused .outsideWindow := by
  have hw : a.inWindow = false := by simp only [Access.inWindow, Bool.and_eq_false_iff, decide_eq_false_iff_not]; omega
  simp [hostAccess, hw]

/-- An access of another width or alignment is refused (20_memory.md R57). -/
theorem hostAccess_of_busError {a : Access} (h0 : 0 ≤ a.offset) (h256 : a.offset < 256) (h : a.width ≠ 32 ∨ a.offset % 4 ≠ 0)
    (s : State) : hostAccess a s = .refused .busError := by
  have hb : (a.wordWide && a.aligned) = false := by simpa [Access.wordWide, Access.aligned, imp_iff_not_or] using h
  simp [hostAccess, Access.inWindow, h0, h256, hb]

/-! ### The map of offsets -/

theorem regAt_of_ge {o : Nat} (h : 0x0C0 ≤ o) : regAt o = .reserved := by
  unfold regAt
  split <;> simp_all

/-- OUT_DATA is the only register whose read pops (10_state.md R16). -/
theorem eq_of_access_regAt_eq_pop {o : Nat} (h : (regAt o).access = .pop) : o = 0x054 := by
  unfold regAt at h
  split at h <;> simp_all [Reg.access]

/-! ### Reads -/

/-- Group D holds no register whose read pops (10_state.md R15). -/
theorem Reg.access_ne_pop_of_datapath {r : Reg} (h : r.datapath = true) : r.access ≠ .pop := by
  cases r <;> simp_all [Reg.datapath, Reg.access]

/-- A read of a register of another access type than POP changes nothing of the block (20_memory.md R59). -/
theorem Reg.readEffect_of_ne_pop {r : Reg} (h : r.access ≠ .pop) (s : State) : r.readEffect s = s := by
  unfold Reg.readEffect
  split
  · next hp => exact absurd hp h
  all_goals rfl

theorem State.busy_eq_false_iff (s : State) : s.busy = false ↔ s.quiescent := by simp [State.busy, State.quiescent]

theorem Reg.readValue_of_busy {r : Reg} (hr : r.datapath = true) {s : State} (hs : s.busy = true) :
    r.readValue s = Config.freeDraw s.draws := by simp [Reg.readValue, hr, hs]

theorem Reg.readValue_of_not_busy (r : Reg) {s : State} (hs : s.busy = false) : r.readValue s = r.value s := by
  simp [Reg.readValue, hs]

/-- The offsets of group D are aligned offsets of the window, and their registers are of group D (10_state.md R15). -/
theorem datapath_offsets :
    ∀ o ∈ [0x048, 0x04C, 0x050, 0x060, 0x064, 0x068, 0x06C, 0x070, 0x074, 0x078, 0x07C, 0x080, 0x084, 0x088, 0x090, 0x094, 0x098,
      0x0A0, 0x0A4, 0x0A8, 0x0AC, 0x0B0, 0x0B4, 0x0B8, 0x0BC], o % 4 = 0 ∧ o < 256 ∧ (regAt o).datapath = true := by decide

/-- Settles O20: a read of a datapath register takes a free draw exactly while Q or PEND is non-empty. -/
theorem busyDatapathReadsAreFreeDraws : Obligations.BusyDatapathReadsAreFreeDraws := by
  intro s o ho
  obtain ⟨ha, hw, hd⟩ := datapath_offsets o ho
  rw [hostAccess_read s ha hw, State.hostRead, Reg.readEffect_of_ne_pop (Reg.access_ne_pop_of_datapath hd)]
  constructor
  · intro hq
    have hb : s.busy = true := by simpa [← s.busy_eq_false_iff] using hq
    simp [Reg.readValue_of_busy hd hb, hd, hb]
  · intro hq
    have hb := s.busy_eq_false_iff.2 hq
    simp [Reg.readValue_of_not_busy _ hb, hb]

theorem State.hostRead_outData (s : State) :
    s.hostRead 0x054 =
      { s with out := s.out.tail, reads := s.reads ++ [{ offset := 0x054, value := s.outDataWord }] } := rfl

/-- A word made of two fields, as a number. -/
theorem toNat_append_eq {m n : Nat} (x : BitVec m) (y : BitVec n) : (x ++ y).toNat = x.toNat * 2 ^ n + y.toNat := by
  rw [BitVec.toNat_append, ← Nat.shiftLeft_add_eq_or_of_lt y.isLt, Nat.shiftLeft_eq]

/-- Settles O23: OUT_DATA is the only offset whose read pops OUT. -/
theorem outDataReadsPopAndOtherReadsDoNot : Obligations.OutDataReadsPopAndOtherReadsDoNot := by
  intro s
  have hread := hostAccess_read s (o := 0x054) rfl (by decide)
  rw [s.hostRead_outData] at hread
  refine ⟨fun b rest h => ⟨(1 : BitVec 24) ++ b, ?_, ?_⟩, fun h => ?_, fun v => ?_, fun o ha ho hne => ?_⟩
  · exact toNat_append_eq _ _
  · refine hread.trans ?_
    simp [State.outDataWord, h]
  · refine hread.trans ?_
    simp [State.outDataWord, h]
  · exact hostAccess_write s (o := 0x054) rfl (by decide) (by decide) v
  · rw [hostAccess_read s ha ho, State.hostRead, Reg.readEffect_of_ne_pop (mt eq_of_access_regAt_eq_pop hne)]
    exact ⟨_, _, rfl⟩

theorem State.irqEnWord_toNat (s : State) : s.irqEnWord.toNat = s.errIE.toNat * 2 + s.doneIE.toNat := by
  simp only [State.irqEnWord, toNat_append_eq, BitVec.toNat_ofBool, BitVec.ofNat_eq_ofNat, BitVec.toNat_ofNat]
  omega

theorem State.irqStatusWord_toNat (s : State) : s.irqStatusWord.toNat = s.errIP.toNat * 2 + s.doneIP.toNat := by
  simp only [State.irqStatusWord, toNat_append_eq, BitVec.toNat_ofBool, BitVec.ofNat_eq_ofNat, BitVec.toNat_ofNat]
  omega

/-- The bits of IRQ_STATUS that are written as 1 are cleared (10_state.md R23). -/
theorem State.regWrite_irqStatus (s : State) (v : Word) :
    s.regWrite .irqStatus v = { s with
      doneIP := (if v.getLsbD 0 then false else s.doneIP), errIP := (if v.getLsbD 1 then false else s.errIP) } := by
  have hclear : ∀ ip w : Bool, (ip && !w) = if w then false else ip := by decide
  simp only [State.regWrite, Reg.port, Reg.access, hclear]

/-- Settles O24: the two writes by access type, the two reads bit by bit, and the IRQ line by its definition. -/
theorem interruptRegisters : Obligations.InterruptRegisters := fun s v =>
  ⟨hostAccess_write s (o := 0x018) rfl (by decide) (by decide) v,
    (hostAccess_write s (o := 0x01C) rfl (by decide) (by decide) v).trans (congrArg _ (s.regWrite_irqStatus v)),
    s.irqEnWord_toNat, s.irqStatusWord_toNat, by simp [State.irq]⟩

/-! ### STATUS -/

theorem Reg.readValue_status (s : State) : (regAt 0x014).readValue s = s.statusWord := rfl

theorem State.statusWord_reset : State.reset.statusWord = 0x00000040 := rfl

/-- STATUS as a sum over its fields, bit 10 down (10_state.md R21). -/
theorem State.statusWord_toNat (s : State) :
    s.statusWord.toNat =
      s.irq.toNat * 2 ^ 10 + (!s.pend.isEmpty).toNat * 2 ^ 9 + s.outFull.toNat * 2 ^ 8 + (!s.out.isEmpty).toNat * 2 ^ 7 +
        s.q.isEmpty.toNat * 2 ^ 6 + s.qFull.toNat * 2 ^ 5 + (s.mode == .error).toNat * 2 ^ 4 + s.busy.toNat * 2 ^ 3 +
        s.mode.number.toNat := by
  simp only [State.statusWord, toNat_append_eq, BitVec.toNat_ofBool, BitVec.ofNat_eq_ofNat, BitVec.toNat_ofNat]
  omega

/-- A flag at bit `k` of a register, by the condition that it shows. -/
theorem toNat_mul_eq_ite {b : Bool} {p : Prop} [Decidable p] (h : b = true ↔ p) (n : Nat) : b.toNat * n = if p then n else 0 := by
  by_cases hp : p
  · simp [hp, h.2 hp]
  · simp [hp, Bool.eq_false_iff.2 (mt h.1 hp)]

theorem Mode.number_toNat (m : Mode) :
    m.number.toNat =
      match m with
      | .idle => 0
      | .tabulate => 1
      | .encode => 2
      | .cbLoad => 3
      | .decode => 4
      | .error => 7 := by
  cases m <;> rfl

/-- Settles O22: STATUS is the sum of its fields, and each flag shows its condition. -/
theorem statusFields : Obligations.StatusFields := by
  refine ⟨State.statusWord_reset, fun s => ?_⟩
  rw [Reg.readValue_status, s.statusWord_toNat]
  have hirq : s.irq = true ↔ (s.doneIP = true ∧ s.doneIE = true) ∨ (s.errIP = true ∧ s.errIE = true) := by simp [State.irq]
  have hpend : (!s.pend.isEmpty) = true ↔ s.pend ≠ [] := by simp
  have houtFull : s.outFull = true ↔ s.out.length = Config.outDepth := by simp [State.outFull]
  have hout : (!s.out.isEmpty) = true ↔ s.out ≠ [] := by simp
  have hq : s.q.isEmpty = true ↔ s.q = [] := by simp
  have hqFull : s.qFull = true ↔ s.q.length = Config.qDepth := by simp [State.qFull]
  have herror : (s.mode == .error) = true ↔ s.mode = .error := by simp
  have hbusy : s.busy = true ↔ s.q ≠ [] ∨ s.pend ≠ [] := by simp [State.busy]
  rw [toNat_mul_eq_ite hirq, toNat_mul_eq_ite hpend, toNat_mul_eq_ite houtFull, toNat_mul_eq_ite hout, toNat_mul_eq_ite hq,
    toNat_mul_eq_ite hqFull, toNat_mul_eq_ite herror, toNat_mul_eq_ite hbusy, s.mode.number_toNat]
  ac_rfl

/-! ### Register values -/

/-- What every register reads as after reset (70_reset_and_hazards.md R166). -/
theorem Reg.readValue_reset (r : Reg) :
    r.readValue State.reset =
      if r = .id then 0x53514831 else if r = .version then 0x00000101
      else if r = .qdepth then BitVec.ofNat 32 Config.qDepth else if r = .odepth then BitVec.ofNat 32 Config.outDepth
      else if r = .status then 0x00000040 else 0 := by
  cases r with
  | codew k => simp [Reg.readValue, State.busy, Reg.value, State.codewReg, State.reset]
  | _ => rfl

/-- The offsets of the registers that are not 0 after reset (10_state.md R15). -/
theorem regAt_eq_iff (o : Nat) :
    (regAt o = .id ↔ o = 0x000) ∧ (regAt o = .version ↔ o = 0x004) ∧ (regAt o = .qdepth ↔ o = 0x008) ∧
      (regAt o = .odepth ↔ o = 0x00C) ∧ (regAt o = .status ↔ o = 0x014) := by
  unfold regAt
  split <;> simp_all

theorem regAt_codew {k : Nat} (h : k < 8) : regAt (0x0A0 + 4 * k) = .codew ⟨k, h⟩ := by
  interval_cases k <;> rfl

theorem State.bwStateWord_toNat (s : State) : s.bwStateWord.toNat = s.cnt.toNat * 2 ^ 8 + s.buf.toNat := by
  simp only [State.bwStateWord, toNat_append_eq, BitVec.ofNat_eq_ofNat, BitVec.toNat_ofNat]
  omega

theorem State.treeRootWord_toNat (s : State) : s.treeRootWord.toNat = s.treeValid.toNat * 2 ^ 31 + s.treeIndex.toNat := by
  simp only [State.treeRootWord, toNat_append_eq, BitVec.toNat_ofBool, BitVec.ofNat_eq_ofNat, BitVec.toNat_ofNat]
  omega

theorem State.codewReg_toNat (s : State) (k : Fin 8) : (s.codewReg k).toNat = s.codew.toNat / 2 ^ (32 * k.val) % 2 ^ 32 := by
  rw [State.codewReg, BitVec.extractLsb'_toNat, Nat.shiftRight_eq_div_pow]

/-- A level or a depth that fits 32 bits reads as it is. -/
theorem toNat_ofNat_word {n : Nat} (h : n < 2 ^ 32) : (BitVec.ofNat 32 n).toNat = n := Nat.mod_eq_of_lt h

/-- Settles O21: the values after reset, and the fields of each register as numbers. -/
theorem registerValues : Obligations.RegisterValues := by
  refine ⟨fun o _ _ => ?_, fun s => ⟨rfl, BitVec.toNat_setWidth_of_le (by decide), s.bwStateWord_toNat,
    BitVec.toNat_setWidth_of_le (by decide), BitVec.toNat_setWidth_of_le (by decide), s.treeRootWord_toNat,
    BitVec.toNat_setWidth_of_le (by decide), fun h => ?_, toNat_ofNat_word, toNat_ofNat_word, fun k hk => ?_⟩⟩
  · obtain ⟨hid, hversion, hq, ho, hstatus⟩ := regAt_eq_iff o
    simp only [Reg.readValue_reset, hid, hversion, hq, ho, hstatus]
  · have hkey : s.key.length % 512 = s.key.length := Nat.mod_eq_of_lt (by omega)
    exact (toNat_ofNat_word (by omega)).trans hkey
  · rw [regAt_codew hk]
    exact s.codewReg_toNat ⟨k, hk⟩

/-! ### Ignored writes and refused accesses -/

/-- The writable offsets of the window are CTRL, IRQ_EN, IRQ_STATUS and the queue ports (10_state.md R16). -/
theorem regAt_ignores_writes {o : Nat} (h : o ∉ [0x010, 0x018, 0x01C, 0x040, 0x044, 0x048, 0x04C, 0x050]) :
    regAt o ≠ .ctrl ∧ (regAt o).port = none ∧ (regAt o).access ≠ .rw ∧ (regAt o).access ≠ .rw1c := by
  unfold regAt
  split <;> simp_all [Reg.port, Reg.access]

/-- A register that is no queue port, no RW and no RW1C register ignores writes (20_memory.md R59). -/
theorem State.regWrite_of_ignored {r : Reg} (hp : r.port = none) (h1 : r.access ≠ .rw) (h2 : r.access ≠ .rw1c) (s : State) (v : Word) :
    s.regWrite r v = s := by
  simp only [State.regWrite, hp]
  split
  · next h => exact absurd h h1
  · next h => exact absurd h h2
  all_goals rfl

/-- The write-only and reserved offsets below the codeword registers' end (10_state.md R15, 20_memory.md R63). -/
theorem regAt_writeOnly :
    ∀ o ∈ [0x010, 0x038, 0x03C, 0x040, 0x044, 0x058, 0x05C, 0x08C, 0x09C], regAt o ∈ [.ctrl, .qCmd, .qData, .reserved] := by
  decide

/-- A write-only or reserved register reads 0 (10_state.md R16, 20_memory.md R63). -/
theorem Reg.readValue_writeOnly {r : Reg} (h : r ∈ [.ctrl, .qCmd, .qData, .reserved]) (s : State) : r.readValue s = 0 := by
  simp only [List.mem_cons, List.not_mem_nil, or_false] at h
  rcases h with rfl | rfl | rfl | rfl <;> rfl

/-- Settles O25: the map of offsets names the writable registers and those that read 0; every other access is refused. -/
theorem otherWritesAreIgnoredAndOtherAccessesRefused : Obligations.OtherWritesAreIgnoredAndOtherAccessesRefused := by
  refine ⟨fun s v o ha ho h => ?_, fun s o _ h => ?_, fun s a => ⟨fun h => hostAccess_of_outside h s, fun h0 h256 h =>
    hostAccess_of_busError h0 h256 h s⟩⟩
  · obtain ⟨hctrl, hport, hrw, hrw1c⟩ := regAt_ignores_writes h
    rw [hostAccess_write s ha ho hctrl, State.regWrite_of_ignored hport hrw hrw1c]
  · rcases h with h | ⟨h, -⟩
    · exact Reg.readValue_writeOnly (regAt_writeOnly o h) s
    · rw [regAt_of_ge h]
      rfl

end Sys2Proof.Machine

/-! ## Queue ports, bounded queues and runs that never stop

The turns, the host's accesses, Q and OUT are lists that a step takes from at the front, in part or in whole. Only two moves put anything
into one of them, a write to a queue port into Q and the drain step into OUT, and both ask for room. -/

namespace Sys2Proof.Machine

/-! ### Queue port writes -/

/-- The offsets of the queue ports are aligned offsets of the window, and their registers are the ports (10_state.md R15, R28, R29). -/
theorem port_offsets :
    ∀ a ∈ [((0x040 : Int), Port.cmd), (0x044, .data), (0x048, .arg0), (0x04C, .arg1), (0x050, .arg2)],
      0 ≤ a.1 ∧ a.1.toNat % 4 = 0 ∧ a.1.toNat < 256 ∧ regAt a.1.toNat ≠ .ctrl ∧ (regAt a.1.toNat).port = some a.2 := by decide

theorem State.regWrite_of_port {r : Reg} {p : Port} (h : r.port = some p) (s : State) (v : Word) :
    s.regWrite r v = s.portWrite p v := by
  simp only [State.regWrite, h]

/-- Settles O19: the access is a port write, which has these three branches. -/
theorem queuePortWrites : Obligations.QueuePortWrites := by
  intro s v o p hmem
  obtain ⟨hpos, ha, hw, hctrl, hport⟩ : 0 ≤ o ∧ o.toNat % 4 = 0 ∧ o.toNat < 256 ∧ regAt o.toNat ≠ .ctrl ∧
      (regAt o.toNat).port = some p := port_offsets _ hmem
  have haccess : hostAccess { kind := .write v, offset := o, width := 32 } s = .next (s.portWrite p v) := by
    rw [← Int.toNat_of_nonneg hpos, hostAccess_write s ha hw hctrl, State.regWrite_of_port hport]
  rw [haccess]
  refine ⟨fun hm => ?_, fun hm hq => ?_, fun hm hq => ?_⟩
  · rw [State.portWrite_of_error hm]
  · rw [State.portWrite_of_full hm hq, State.errorEntry_eq_errorState]
    rfl
  · rw [State.portWrite_of_room hm hq]
    rfl

/-! ### Taking from the lists of what is to come -/

/-- Each of the four lists in `t` is what is left of the one in `s` after nothing, some or all of it is taken from the front. -/
structure OnlyTakes (s t : State) : Prop where
  turns : t.turns <:+ s.turns
  accesses : t.accesses <:+ s.accesses
  q : t.q <:+ s.q
  out : t.out <:+ s.out

namespace OnlyTakes

theorem trans {s t u : State} (h : OnlyTakes s t) (k : OnlyTakes t u) : OnlyTakes s u where
  turns := k.turns.trans h.turns
  accesses := k.accesses.trans h.accesses
  q := k.q.trans h.q
  out := k.out.trans h.out

/-- A change of other fields only. -/
theorem of_eq {s t : State} (hturns : t.turns = s.turns := by rfl) (haccesses : t.accesses = s.accesses := by rfl)
    (hq : t.q = s.q := by rfl) (hout : t.out = s.out := by rfl) : OnlyTakes s t :=
  ⟨hturns ▸ List.suffix_rfl, haccesses ▸ List.suffix_rfl, hq ▸ List.suffix_rfl, hout ▸ List.suffix_rfl⟩

/-- Error entry discards Q and OUT (60_exceptions.md R154). -/
theorem errorEntry (s : State) (c : Cause) (info eseq : Word) : OnlyTakes s (s.errorEntry c info eseq) :=
  ⟨List.suffix_rfl, List.suffix_rfl, List.nil_suffix, List.nil_suffix⟩

/-- Reset discards Q and OUT (70_reset_and_hazards.md R166). -/
theorem toReset (s : State) : OnlyTakes s s.toReset :=
  ⟨List.suffix_rfl, List.suffix_rfl, List.nil_suffix, List.nil_suffix⟩

theorem dequeue (s : State) : OnlyTakes s s.dequeue :=
  ⟨List.suffix_rfl, List.suffix_rfl, List.tail_suffix _, List.suffix_rfl⟩

theorem complete (s : State) : OnlyTakes s s.complete := .of_eq

theorem tailTurns (s : State) : OnlyTakes s { s with turns := s.turns.tail } :=
  ⟨List.tail_suffix _, List.suffix_rfl, List.suffix_rfl, List.suffix_rfl⟩

theorem restOfAccesses {s : State} {a : Access} {rest : List Access} (h : s.accesses = a :: rest) :
    OnlyTakes s { s with accesses := rest } :=
  ⟨List.suffix_rfl, h ▸ List.suffix_cons a rest, List.suffix_rfl, List.suffix_rfl⟩

theorem queuesBounded {s t : State} (h : OnlyTakes s t) (hs : QueuesBounded s) : QueuesBounded t :=
  ⟨h.q.length_le.trans hs.1, h.out.length_le.trans hs.2⟩

end OnlyTakes

/-! ### No instruction puts anything into Q or OUT -/

theorem inMode_onlyTakes {m : Mode} {s : State} (i : Instr) {f : State → State} (h : OnlyTakes s (f s)) :
    OnlyTakes s (inMode m i s f) := by
  rcases inMode_cases m i s f with ⟨-, he⟩ | ⟨-, he⟩ <;> rw [he]
  · exact h
  · exact .errorEntry ..

theorem LoadEffect.onlyTakes {s t : State} (h : LoadEffect s t) : OnlyTakes s t := by
  cases h with
  | raise c info => exact .errorEntry ..
  | collect | countZero | count | sym | len | digit | entry | lastEntry => exact .of_eq

theorem State.decodeByte_onlyTakes (s : State) (b : Byte) : OnlyTakes s (s.decodeByte b) := by
  unfold State.decodeByte
  split
  · exact .errorEntry ..
  · next u hu =>
    have hsu : OnlyTakes s u := by rw [decodeKeyBits_eq hu]; exact .of_eq
    unfold State.decodeCounted
    split
    · split
      · exact hsu.trans (.errorEntry ..)
      · exact hsu.trans .of_eq
    · exact hsu.trans .of_eq

theorem State.encodeByte_onlyTakes (s : State) (b : Byte) : OnlyTakes s (s.encodeByte b) := by
  unfold State.encodeByte
  split
  · split
    · exact .errorEntry ..
    · rw [State.bitPuts_eq]
      exact .of_eq
  · exact .errorEntry ..

theorem State.tabulateByte_onlyTakes (s : State) (b : Byte) : OnlyTakes s (s.tabulateByte b) := by
  unfold State.tabulateByte
  split
  · exact .errorEntry ..
  · exact .of_eq

theorem execData_onlyTakes {b : Byte} {s t : State} (h : execData b s = .next t) : OnlyTakes s t := by
  cases h
  split
  · exact .errorEntry ..
  · exact s.tabulateByte_onlyTakes b
  · exact s.encodeByte_onlyTakes b
  · exact (s.loadByte_effect b).onlyTakes
  · exact s.decodeByte_onlyTakes b
  · exact .of_eq

theorem State.decodeBegin_onlyTakes (s : State) : OnlyTakes s s.decodeBegin := by
  unfold State.decodeBegin
  split
  · exact .errorEntry ..
  · split
    · exact .errorEntry ..
    · split
      · exact .errorEntry ..
      · exact .of_eq

theorem State.bitFlush_onlyTakes (s : State) : OnlyTakes s s.bitFlush := by
  rcases s.bitFlush_cases with ⟨-, he⟩ | ⟨-, he⟩ <;> rw [he] <;> exact .of_eq

theorem State.abort_onlyTakes (s : State) : OnlyTakes s s.abort := by
  by_cases hm : s.mode = .error
  · rw [State.abort_of_error hm]; exact .of_eq
  · rw [State.abort_of_ne hm]; exact .errorEntry ..

theorem State.clearErr_onlyTakes (s : State) : OnlyTakes s s.clearErr := by
  by_cases hm : s.mode = .error
  · rw [State.clearErr_of_error hm]; exact .of_eq
  · rw [State.clearErr_of_ne hm]; exact .of_eq

theorem exec_onlyTakes {i : Instr} {s t : State} (h : exec i s = .next t) : OnlyTakes s t := by
  cases i with
  | nop | arg0 | arg1 | arg2 => cases h; exact .of_eq
  | data b => exact execData_onlyTakes h
  | histClear | histBegin | histEnd | freqSet | freqGet | cbClear | cbEmit | cbLoad | encBegin =>
    cases h; exact inMode_onlyTakes _ .of_eq
  | build => cases h; exact inMode_onlyTakes _ (by rw [State.buildTree_frame]; exact .of_eq)
  | nodeGet | cbGet =>
    cases h
    refine inMode_onlyTakes _ ?_
    split <;> exact .of_eq
  | encFlush => cases h; exact inMode_onlyTakes _ (s.bitFlush_onlyTakes.trans .of_eq)
  | decBegin => cases h; exact inMode_onlyTakes _ s.decodeBegin_onlyTakes
  | ctrlSoftReset => cases h; exact .toReset s
  | ctrlAbort clear =>
    cases h
    cases clear with
    | false => exact s.abort_onlyTakes
    | true => exact s.abort_onlyTakes.trans s.abort.clearErr_onlyTakes
  | ctrlClearErr => cases h; exact s.clearErr_onlyTakes

/-! ### What a step puts into Q and OUT -/

/-- A change that takes from the four lists and puts at most one thing into a queue: a byte of PEND into an OUT with room (R85), or an entry
into a Q that is not full (R61). -/
inductive QueueChange (s t : State) : Prop
  | takes (h : OnlyTakes s t)
  | drains {u : State} (hu : OnlyTakes s u) (hroom : u.out.length < Config.outDepth) (h : OnlyTakes u.drainByte t)
  | enqueues {u : State} (hu : OnlyTakes s u) (e : Entry) (hroom : u.q.length ≠ Config.qDepth) (h : OnlyTakes (u.enqueue e) t)

theorem QueueChange.after_takes {s u t : State} (h : OnlyTakes s u) (k : QueueChange u t) : QueueChange s t := by
  cases k with
  | takes k => exact .takes (h.trans k)
  | drains hu hroom k => exact .drains (h.trans hu) hroom k
  | enqueues hu e hroom k => exact .enqueues (h.trans hu) e hroom k

theorem dispatchEntry_onlyTakes {e : Entry} {s t : State} (h : dispatchEntry e s = .next t) : OnlyTakes s t := by
  rcases dispatchEntry_cases h with ⟨i, -, hi⟩ | ⟨r, -, rfl⟩
  · exact exec_onlyTakes hi
  · exact .errorEntry ..

theorem blockMove_queueChange {s t : State} (h : blockMove s = .next t) : QueueChange s t := by
  rcases blockMove_cases h with ⟨e, rest, u, -, -, -, hu, rfl⟩ | ⟨-, hroom, rfl⟩ | ⟨-, rfl⟩
  · exact .takes ((OnlyTakes.dequeue s).trans ((dispatchEntry_onlyTakes hu).trans (.complete u)))
  · exact .drains .of_eq hroom (.complete _)
  · exact .takes .of_eq

theorem ctrlWrite_onlyTakes {w : Word} {s t : State} (h : ctrlWrite w s = .next t) : OnlyTakes s t := by
  rcases ctrlWrite_cases h with ⟨i, -, hi⟩ | ⟨-, rfl⟩
  · exact exec_onlyTakes hi
  · exact .of_eq

/-- A read takes a byte from OUT or nothing (10_state.md R30). -/
theorem State.hostRead_onlyTakes (s : State) (o : Nat) : OnlyTakes s (s.hostRead o) := by
  unfold State.hostRead Reg.readEffect
  split
  · exact ⟨List.suffix_rfl, List.suffix_rfl, List.suffix_rfl, List.tail_suffix _⟩
  all_goals exact .of_eq

theorem State.portWrite_queueChange (s : State) (p : Port) (v : Word) : QueueChange s (s.portWrite p v) := by
  by_cases hm : s.mode = .error
  · rw [State.portWrite_of_error hm]; exact .takes .of_eq
  · by_cases hq : s.q.length = Config.qDepth
    · rw [State.portWrite_of_full hm hq]; exact .takes (.errorEntry ..)
    · rw [State.portWrite_of_room hm hq]; exact .enqueues .of_eq _ hq .of_eq

theorem State.regWrite_queueChange (s : State) (r : Reg) (v : Word) : QueueChange s (s.regWrite r v) := by
  unfold State.regWrite
  split
  · exact s.portWrite_queueChange _ v
  · split <;> exact .takes .of_eq

theorem hostMove_queueChange {s t : State} (h : hostMove s = .next t) : QueueChange s t := by
  rcases hostMove_cases h with ⟨-, rfl⟩ | ⟨a, rest, ha, -, h⟩
  · exact .takes .of_eq
  · refine .after_takes (.restOfAccesses ha) ?_
    rcases h with ⟨-, rfl⟩ | ⟨w, -, -, hw⟩ | ⟨w, -, -, rfl⟩
    · exact .takes (State.hostRead_onlyTakes ..)
    · exact .takes (ctrlWrite_onlyTakes hw)
    · exact State.regWrite_queueChange ..

/-- What a step does to the turns, the accesses, Q and OUT. -/
theorem step_queueChange {s t : State} (h : step s = .next t) : QueueChange s t := by
  refine .after_takes (.tailTurns s) ?_
  rcases step_cases h with ⟨-, h⟩ | ⟨-, h⟩ | ⟨-, rfl⟩
  · exact blockMove_queueChange h
  · exact hostMove_queueChange h
  · exact .takes (.toReset _)

theorem QueueChange.queuesBounded {s t : State} (h : QueueChange s t) (hs : QueuesBounded s) : QueuesBounded t := by
  cases h with
  | takes h => exact h.queuesBounded hs
  | @drains u hu hroom h =>
    obtain ⟨hq, -⟩ := hu.queuesBounded hs
    refine h.queuesBounded ⟨hq, ?_⟩
    rw [State.drainByte_out, List.length_append, List.length_take]
    omega
  | @enqueues u hu e hroom h =>
    obtain ⟨hq, hout⟩ := hu.queuesBounded hs
    refine h.queuesBounded ⟨?_, hout⟩
    rw [State.enqueue_q, List.length_append, List.length_singleton]
    omega

/-- Settles O53: the two moves that fill a queue ask for room in it. -/
theorem queuesStayBounded : Obligations.QueuesStayBounded := fun _ _ hs h => (step_queueChange h).queuesBounded hs

/-! ### Runs of a well-behaved host -/

theorem QueueChange.accesses_suffix {s t : State} (h : QueueChange s t) : t.accesses <:+ s.accesses := by
  cases h with
  | takes h => exact h.accesses
  | drains hu _ h => exact h.accesses.trans hu.accesses
  | enqueues hu _ _ h => exact h.accesses.trans hu.accesses

theorem QueueChange.hostWellBehaved {s t : State} (h : QueueChange s t) (hs : s.hostWellBehaved) : t.hostWellBehaved :=
  fun a ha => hs a (h.accesses_suffix.subset ha)

/-- Every instruction has a next state: an error is one too (60_exceptions.md R154). -/
theorem exists_exec (i : Instr) (s : State) : ∃ t, exec i s = .next t := by
  cases i <;> exact ⟨_, rfl⟩

theorem exists_dispatchEntry (e : Entry) (s : State) : ∃ t, dispatchEntry e s = .next t := by
  unfold dispatchEntry
  split
  · exact exists_exec ..
  · exact ⟨_, rfl⟩

theorem exists_executeStep (s : State) : ∃ t, executeStep s = .next t := by
  unfold executeStep
  split
  · exact ⟨_, rfl⟩
  · next e _ _ =>
    obtain ⟨t, ht⟩ := exists_dispatchEntry e s.dequeue
    exact ⟨t.complete, by rw [ht, onNext_next]⟩

theorem exists_blockMove (s : State) : ∃ t, blockMove s = .next t := by
  unfold blockMove
  split
  · exact exists_executeStep s
  · split <;> exact ⟨_, rfl⟩

theorem exists_ctrlWrite (w : Word) (s : State) : ∃ t, ctrlWrite w s = .next t := by
  unfold ctrlWrite
  split
  · exact exists_exec ..
  · exact ⟨_, rfl⟩

theorem exists_windowAccess (k : AccessKind) (o : Nat) (s : State) : ∃ t, windowAccess k o s = .next t := by
  unfold windowAccess
  split
  · exact ⟨_, rfl⟩
  · split
    · exact exists_ctrlWrite ..
    · exact ⟨_, rfl⟩

/-- A defined access is not refused (20_memory.md R52, R57). -/
theorem hostAccess_of_wellFormed {a : Access} (h : a.wellFormed = true) (s : State) :
    hostAccess a s = windowAccess a.kind a.offset.toNat s := by
  simp only [Access.wellFormed, Bool.and_eq_true] at h
  obtain ⟨⟨hwindow, hwide⟩, haligned⟩ := h
  simp [hostAccess, hwindow, hwide, haligned]

theorem exists_hostMove {s : State} (hs : s.hostWellBehaved) : ∃ t, hostMove s = .next t := by
  unfold hostMove
  split
  · exact ⟨_, rfl⟩
  · next a rest ha =>
    rw [hostAccess_of_wellFormed (hs a (ha ▸ List.mem_cons_self))]
    exact exists_windowAccess ..

theorem exists_step {s : State} (hs : s.hostWellBehaved) : ∃ t, step s = .next t := by
  unfold step move
  split
  · exact exists_blockMove _
  · exact exists_hostMove hs
  · exact ⟨_, rfl⟩

theorem run_succ_of_step {M : Host.Core} {s t : M.State} (h : M.step s = .next t) (k : Nat) : M.run (k + 1) s = M.run k t := by
  rw [Host.Core.run, h]

/-- A run is safe from every state of a set in which each state has a next one, also in the set. -/
theorem safeRun_of_invariant {P : State → Prop} (hP : ∀ s, P s → ∃ t, step s = .next t ∧ P t) {s : State} (hs : P s) :
    SafeRun s := by
  intro k
  induction k generalizing s with
  | zero => exact ⟨s, rfl⟩
  | succ k ih =>
    obtain ⟨t, hst, ht⟩ := hP s hs
    obtain ⟨u, hu⟩ := ih ht
    exact ⟨u, (run_succ_of_step (M := core) hst k).trans hu⟩

/-- Settles O10: what is left of defined accesses is defined, and with these a step exists. -/
theorem wellBehavedHostRunsNeverStop : Obligations.WellBehavedHostRunsNeverStop := fun _ =>
  safeRun_of_invariant fun _ hs =>
    let ⟨t, ht⟩ := exists_step hs
    ⟨t, ht, (step_queueChange ht).hostWellBehaved hs⟩

end Sys2Proof.Machine

/-! ## Words and instructions

A CMD word is its OPCODE in front of its OPERAND (30_encoding.md R72), and an OPERAND the zeros of its form in front of its field
(R73). Reading the parts of a word that was put together gives them back, so decoding undoes encoding; putting the parts of a word
together gives the word, so encoding undoes decoding. -/

namespace Sys2Proof

/-! ### OPCODE and OPERAND -/

theorem opcodeOf_append_operandOf (v : Word) : opcodeOf v ++ operandOf v = v := BitVec.extractLsb'_append_extractLsb'

theorem opcodeOf_append (op : Byte) (x : BitVec 24) : opcodeOf (op ++ x) = op := BitVec.extractLsb'_append_eq_left

theorem operandOf_append (op : Byte) (x : BitVec 24) : operandOf (op ++ x) = x := BitVec.extractLsb'_append_eq_right

@[simp] theorem opcodeOf_cmdSymWord (op s : Byte) : opcodeOf (cmdSymWord op s) = op := opcodeOf_append ..

@[simp] theorem opcodeOf_cmdIdxWord (op : Byte) (i : BitVec 9) : opcodeOf (cmdIdxWord op i) = op := opcodeOf_append ..

theorem opcodeOf_eq_ofNat (v : Word) : opcodeOf v = BitVec.ofNat 8 (v.toNat / 2 ^ 24) := by
  rw [← Nat.shiftRight_eq_div_pow]
  rfl

theorem operandOf_toNat (v : Word) : (operandOf v).toNat = v.toNat % 2 ^ 24 := rfl

theorem extractLsb'_ne_zero_of_le {k m : Nat} {x : BitVec (m + k)} (h : 2 ^ k ≤ x.toNat) : x.extractLsb' k m ≠ 0 := by
  intro h0
  have hx : x.toNat = (x.extractLsb' 0 k).toNat := by
    conv_lhs => rw [← BitVec.extractLsb'_append_extractLsb' (x := x), h0, Laws.RowMatch.zero_append_toNat]
  have := (x.extractLsb' 0 k).isLt
  omega

theorem zero_append_extractLsb' {k m : Nat} {x : BitVec (m + k)} (h : x.extractLsb' k m = 0) :
    (0 : BitVec m) ++ x.extractLsb' 0 k = x := by
  rw [← h, BitVec.extractLsb'_append_extractLsb']

/-! ### The operand forms (30_encoding.md R73) -/

theorem formSym8_cmdSymWord (op s : Byte) (f : Byte → Instr) : formSym8 (cmdSymWord op s) f = .ok (f s) := by
  have ho : operandOf (cmdSymWord op s) = (0 : BitVec 16) ++ s := operandOf_append ..
  rw [formSym8, ho, if_pos BitVec.extractLsb'_append_eq_left, BitVec.extractLsb'_append_eq_right]

theorem formIdx9_cmdIdxWord (op : Byte) (i : BitVec 9) (f : BitVec 9 → Instr) : formIdx9 (cmdIdxWord op i) f = .ok (f i) := by
  have ho : operandOf (cmdIdxWord op i) = (0 : BitVec 15) ++ i := operandOf_append ..
  rw [formIdx9, ho, if_pos BitVec.extractLsb'_append_eq_left, BitVec.extractLsb'_append_eq_right]

theorem decodeData_zero_append (b : Byte) : decodeData ((0 : BitVec 24) ++ b) = .ok (.data b) := by
  rw [decodeData, if_pos BitVec.extractLsb'_append_eq_left, BitVec.extractLsb'_append_eq_right]

theorem formNone_eq_ok {v : Word} {i j : Instr} (h : formNone v i = .ok j) : j = i ∧ v = cmdWord (opcodeOf v) := by
  unfold formNone at h
  split at h
  · next h0 => exact ⟨(Except.ok.inj h).symm, by rw [cmdWord, ← h0, opcodeOf_append_operandOf]⟩
  · exact nomatch h

theorem formSym8_eq_ok {v : Word} {f : Byte → Instr} {j : Instr} (h : formSym8 v f = .ok j) :
    ∃ s, j = f s ∧ v = cmdSymWord (opcodeOf v) s := by
  unfold formSym8 at h
  split at h
  · next h0 => exact ⟨_, (Except.ok.inj h).symm, by rw [cmdSymWord, zero_append_extractLsb' h0, opcodeOf_append_operandOf]⟩
  · exact nomatch h

theorem formIdx9_eq_ok {v : Word} {f : BitVec 9 → Instr} {j : Instr} (h : formIdx9 v f = .ok j) :
    ∃ i, j = f i ∧ v = cmdIdxWord (opcodeOf v) i := by
  unfold formIdx9 at h
  split at h
  · next h0 => exact ⟨_, (Except.ok.inj h).symm, by rw [cmdIdxWord, zero_append_extractLsb' h0, opcodeOf_append_operandOf]⟩
  · exact nomatch h

theorem formNone_of_ne {v : Word} (h : v.toNat % 2 ^ 24 ≠ 0) (i : Instr) : formNone v i = .error .reservedField := by
  refine if_neg fun h0 => h ?_
  rw [← operandOf_toNat, h0]
  rfl

theorem formSym8_of_le {v : Word} (h : 2 ^ 8 ≤ v.toNat % 2 ^ 24) (f : Byte → Instr) : formSym8 v f = .error .reservedField :=
  if_neg (extractLsb'_ne_zero_of_le (operandOf_toNat v ▸ h))

theorem formIdx9_of_le {v : Word} (h : 2 ^ 9 ≤ v.toNat % 2 ^ 24) (f : BitVec 9 → Instr) : formIdx9 v f = .error .reservedField :=
  if_neg (extractLsb'_ne_zero_of_le (operandOf_toNat v ▸ h))

theorem decodeData_of_le {v : Word} (h : 2 ^ 8 ≤ v.toNat) : decodeData v = .error .reservedField :=
  if_neg (extractLsb'_ne_zero_of_le h)

/-! ### The opcode map (30_encoding.md R77) -/

/-- The opcodes of form NONE. -/
def noneOpcodes : List Nat := [0x00, 0x10, 0x11, 0x12, 0x20, 0x30, 0x32, 0x33, 0x40, 0x41, 0x50]

/-- The opcodes of form SYM8. -/
def symOpcodes : List Nat := [0x13, 0x14, 0x31]

theorem decodeCmd_of_noneOpcode {v : Word} (h : v.toNat / 2 ^ 24 ∈ noneOpcodes) :
    ∃ i, encode i = .entry ⟨.cmd, cmdWord (opcodeOf v)⟩ ∧ decodeCmd v = formNone v i := by
  have ho := opcodeOf_eq_ofNat v
  simp only [noneOpcodes, List.mem_cons, List.not_mem_nil, or_false] at h
  rcases h with h | h | h | h | h | h | h | h | h | h | h
  all_goals
    rw [h] at ho
    simp only [decodeCmd, ho]
    exact ⟨_, rfl, rfl⟩

theorem decodeCmd_of_symOpcode {v : Word} (h : v.toNat / 2 ^ 24 ∈ symOpcodes) :
    ∃ f, (∀ s, encode (f s) = .entry ⟨.cmd, cmdSymWord (opcodeOf v) s⟩) ∧ decodeCmd v = formSym8 v f := by
  have ho := opcodeOf_eq_ofNat v
  simp only [symOpcodes, List.mem_cons, List.not_mem_nil, or_false] at h
  rcases h with h | h | h
  all_goals
    rw [h] at ho
    simp only [decodeCmd, ho]
    exact ⟨_, fun _ => rfl, rfl⟩

theorem decodeCmd_of_idxOpcode {v : Word} (h : v.toNat / 2 ^ 24 = 0x21) :
    (∀ k, encode (.nodeGet k) = .entry ⟨.cmd, cmdIdxWord (opcodeOf v) k⟩) ∧ decodeCmd v = formIdx9 v .nodeGet := by
  have ho := opcodeOf_eq_ofNat v
  rw [h] at ho
  exact ⟨fun _ => by rw [ho]; rfl, by simp only [decodeCmd, ho]⟩

theorem decodeCmd_of_illegalOpcode {v : Word} (hnone : v.toNat / 2 ^ 24 ∉ noneOpcodes) (hsym : v.toNat / 2 ^ 24 ∉ symOpcodes)
    (hidx : v.toNat / 2 ^ 24 ≠ 0x21) : decodeCmd v = .error .illegalOpcode := by
  have ho : (opcodeOf v).toNat = v.toNat / 2 ^ 24 := by
    rw [opcodeOf_eq_ofNat, BitVec.toNat_ofNat]
    omega
  unfold decodeCmd
  split
  case h_16 => rfl
  -- The three rows of form SYM8, the one of form IDX9, and the rows of form NONE.
  case h_5 h | h_6 h | h_10 h => rw [h] at ho; exact absurd (by rw [← ho]; decide) hsym
  case h_8 h => rw [h] at ho; exact absurd ho.symm hidx
  all_goals
    next h => rw [h] at ho; exact absurd (by rw [← ho]; decide) hnone

/-! ### The decoder and the encoder -/

theorem decode_encode (i : Instr) : decode (encode i) = .ok i := by
  cases i with
  | freqSet s | freqGet s | cbGet s =>
    simp only [encode, Instr.port, Instr.value, decode, decodeEntry, decodeCmd, opcodeOf_cmdSymWord, formSym8_cmdSymWord]
    rfl
  | nodeGet k =>
    simp only [encode, Instr.port, Instr.value, decode, decodeEntry, decodeCmd, opcodeOf_cmdIdxWord, formIdx9_cmdIdxWord]
    rfl
  | data b => exact decodeData_zero_append b
  | ctrlAbort clear => cases clear <;> rfl
  | nop | histClear | histBegin | histEnd | build | cbClear | cbEmit | cbLoad | encBegin | encFlush | decBegin => rfl
  | arg0 | arg1 | arg2 | ctrlSoftReset | ctrlClearErr => rfl

theorem Port.ofNumber_number (p : Port) : Port.ofNumber p.number = some p := by cases p <;> rfl

theorem Entry.ofBits_toBits (e : Entry) : Entry.ofBits e.toBits = some e := by
  have hport : e.toBits.extractLsb' 32 3 = e.port.number := BitVec.extractLsb'_append_eq_left
  have hvalue : e.toBits.extractLsb' 0 32 = e.value := BitVec.extractLsb'_append_eq_right
  simp only [Entry.ofBits, hport, hvalue, Port.ofNumber_number]

theorem decodeBits_toBits (e : Entry) : decodeBits e.toBits = decodeEntry e := by
  simp only [decodeBits, Entry.ofBits_toBits]

/-- Settles O1: reading the parts of a word gives back what it was put together from. -/
theorem decodeOfEncodeIsTheInstruction : Obligations.DecodeOfEncodeIsTheInstruction := by
  refine ⟨decode_encode, fun i e h => ?_, Laws.RowMatch.toBits_toNat⟩
  calc decodeBits e.toBits = decode (.entry e) := decodeBits_toBits e
    _ = decode (encode i) := by rw [h]
    _ = .ok i := decode_encode i

theorem encode_of_decodeCmd {v : Word} {i : Instr} (h : decodeCmd v = .ok i) : encode i = .entry ⟨.cmd, v⟩ := by
  by_cases hnone : v.toNat / 2 ^ 24 ∈ noneOpcodes
  · obtain ⟨j, hj, hform⟩ := decodeCmd_of_noneOpcode hnone
    obtain ⟨rfl, hv⟩ := formNone_eq_ok (hform ▸ h)
    rw [hj, ← hv]
  by_cases hsym : v.toNat / 2 ^ 24 ∈ symOpcodes
  · obtain ⟨f, hf, hform⟩ := decodeCmd_of_symOpcode hsym
    obtain ⟨s, rfl, hv⟩ := formSym8_eq_ok (hform ▸ h)
    rw [hf, ← hv]
  by_cases hidx : v.toNat / 2 ^ 24 = 0x21
  · obtain ⟨hk, hform⟩ := decodeCmd_of_idxOpcode hidx
    obtain ⟨k, rfl, hv⟩ := formIdx9_eq_ok (hform ▸ h)
    rw [hk, ← hv]
  · rw [decodeCmd_of_illegalOpcode hnone hsym hidx] at h
    exact nomatch h

theorem encode_of_decodeData {v : Word} {i : Instr} (h : decodeData v = .ok i) : encode i = .entry ⟨.data, v⟩ := by
  unfold decodeData at h
  split at h
  · next h0 =>
    cases h
    exact congrArg (Encoded.entry ⟨.data, ·⟩) (zero_append_extractLsb' h0)
  · exact nomatch h

/-- Settles O2: a word is put together from its parts, and only one word has the parts that the decoder reads. -/
theorem encodeOfDecodeIsTheEntry : Obligations.EncodeOfDecodeIsTheEntry := by
  rintro ⟨port, v⟩ i h
  cases port with
  | cmd => exact encode_of_decodeCmd h
  | data => exact encode_of_decodeData h
  | arg0 | arg1 | arg2 => cases h; rfl

/-- Settles O3: the words are literals, and the decoder computes on them. -/
theorem wordsOfTheSpecDecode : Obligations.WordsOfTheSpecDecode := by
  unfold Obligations.WordsOfTheSpecDecode
  decide

end Sys2Proof

/-! ## Usage errors

The three checks of 30_encoding.md R79 in their order: the opcode and the must-be-zero bits when an entry is decoded, the mode when its
instruction runs. Each that fails is an error entry (60_exceptions.md R154). -/

namespace Sys2Proof.Machine

/-! ### Rejected entries -/

theorem dispatchEntry_of_error (e : Entry) (s : State) {r : Reject} (h : decodeEntry e = .error r) :
    dispatchEntry e s = .next (errorState s (rejectCause r).errWord e.value (s.seq - 1)) := by
  simp only [dispatchEntry, h, State.raise_eq, State.errorEntry_eq_errorState]

/-- Settles O4: the opcode map gives the form, and the form rejects its must-be-zero bits. -/
theorem rejectedEntriesRaiseUsageErrors : Obligations.RejectedEntriesRaiseUsageErrors := by
  intro s v
  refine ⟨fun hop => ?_, fun hop hz => ?_, fun hop hz => ?_, fun hop hz => ?_, fun hz => ?_⟩
  · have hill : decodeCmd v = .error .illegalOpcode := by
      refine decodeCmd_of_illegalOpcode ?_ ?_ (by omega)
      · simp only [noneOpcodes, List.mem_cons, List.not_mem_nil, or_false]
        omega
      · simp only [symOpcodes, List.mem_cons, List.not_mem_nil, or_false]
        omega
    exact dispatchEntry_of_error ⟨.cmd, v⟩ s hill
  · obtain ⟨i, -, hform⟩ := decodeCmd_of_noneOpcode hop
    exact dispatchEntry_of_error ⟨.cmd, v⟩ s (hform.trans (formNone_of_ne hz i))
  · obtain ⟨f, -, hform⟩ := decodeCmd_of_symOpcode hop
    exact dispatchEntry_of_error ⟨.cmd, v⟩ s (hform.trans (formSym8_of_le hz f))
  · obtain ⟨-, hform⟩ := decodeCmd_of_idxOpcode hop
    exact dispatchEntry_of_error ⟨.cmd, v⟩ s (hform.trans (formIdx9_of_le hz _))
  · exact dispatchEntry_of_error ⟨.data, v⟩ s (decodeData_of_le hz)

/-! ### Illegal modes -/

/-- A command that only one mode allows raises USAGE.ILLEGAL_IN_MODE in every other. -/
theorem next_inMode_of_ne {m : Mode} {s : State} (h : s.mode ≠ m) (i : Instr) (f : State → State) :
    Host.Outcome.next (φ := Fault) (ρ := Refusal) (inMode m i s f) = .next (errorState s 0x503 i.value (s.seq - 1)) := by
  rw [inMode_of_ne h, State.errorEntry_eq_errorState]
  rfl

/-- The VALUE of a DATA entry is its byte as a word (30_encoding.md R74). -/
theorem value_data (b : Byte) : (Instr.data b).value = b.setWidth 32 := (BitVec.setWidth_eq_append (by decide)).symm

theorem exec_data_of_idle {s : State} (h : s.mode = .idle) (b : Byte) :
    exec (.data b) s = .next (errorState s 0x504 (b.setWidth 32) (s.seq - 1)) := by
  simp only [exec, execData, h, State.raise_eq, State.errorEntry_eq_errorState, value_data]
  rfl

/-- Settles O14: every command but NOP is under the mode check. -/
theorem illegalInModeRaises : Obligations.IllegalInModeRaises := by
  refine ⟨fun i s hcommand hnop hmode => ?_, fun b s h => exec_data_of_idle h b⟩
  cases i with
  | nop => exact absurd rfl hnop
  | data | arg0 | arg1 | arg2 | ctrlSoftReset | ctrlAbort | ctrlClearErr => exact nomatch hcommand
  | histClear | histBegin | histEnd | freqSet | freqGet | build | nodeGet | cbClear | cbGet | cbEmit | cbLoad | encBegin | encFlush
  | decBegin => exact next_inMode_of_ne hmode _ _

end Sys2Proof.Machine

/-! ## The queue and the control writes

When each internal step is enabled (40_queue_control.md R84, R85), and what it makes of DONE_IP (R86) and of SEQ (R87). A block left to
itself comes to rest (R88), since each of its moves shortens Q, or PEND with Q as it was. At the end NOP, the operand entries and the
CTRL actions (R91-R96). -/

namespace Sys2Proof.Machine

/-! ### When the block can move -/

theorem State.canExecute_iff (s : State) : s.canExecute = true ↔ s.mode ≠ .error ∧ s.pend = [] ∧ s.q ≠ [] := by
  simp [State.canExecute, and_assoc]

theorem State.canDrain_iff (s : State) : s.canDrain = true ↔ s.pend ≠ [] ∧ s.out.length < Config.outDepth := by
  simp [State.canDrain]

/-- No internal step is enabled where output waits for a full OUT, in ERROR with no output waiting, and where the block is quiescent. -/
theorem State.canMove_eq_false_iff (s : State) :
    s.canMove = false ↔
      (s.pend ≠ [] ∧ Config.outDepth ≤ s.out.length) ∨ (s.pend = [] ∧ s.mode = .error) ∨ s.quiescent := by
  rw [State.canMove, Bool.or_eq_false_iff, ← Bool.not_eq_true, ← Bool.not_eq_true, State.canExecute_iff, State.canDrain_iff,
    State.quiescent]
  by_cases hp : s.pend = []
  · simp [hp, or_iff_not_imp_left]
  · simp [hp]

theorem blockMove_of_canExecute {s : State} (h : s.canExecute = true) : blockMove s = executeStep s := if_pos h

theorem blockMove_of_canMove_false {s : State} (h : s.canMove = false) : blockMove s = .next s := by
  obtain ⟨hx, hd⟩ := Bool.or_eq_false_iff.1 h
  rw [blockMove, hx, hd]
  rfl

theorem blockMove_of_canDrain {s : State} (h : s.canDrain = true) : blockMove s = .next (drainStep s) := by
  have hx : ¬ s.canExecute = true := fun hx => ((s.canDrain_iff).1 h).1 ((s.canExecute_iff).1 hx).2.1
  rw [blockMove, if_neg hx, if_pos h]

theorem executeStep_of_cons {s : State} {e : Entry} {rest : List Entry} (h : s.q = e :: rest) :
    executeStep s = onNext State.complete (dispatchEntry e s.dequeue) := by
  rw [executeStep, h]

/-- Settles O7: the drain step is `drainStep`, and the second part lists the states where no step is enabled. -/
theorem drainStepMovesOneByteOrStalls : Obligations.DrainStepMovesOneByteOrStalls := by
  refine ⟨fun s b rest hp hroom => ?_, fun s h => blockMove_of_canMove_false (s.canMove_eq_false_iff.2 h)⟩
  rw [blockMove_of_canDrain (s.canDrain_iff.2 ⟨by simp [hp], hroom⟩), drainStep, State.drainByte, State.complete, hp]
  rfl

/-! ### What every instruction but a soft reset keeps -/

/-- SEQ, DONE_IP and IRQ_EN: the items of the block that error entry keeps (60_exceptions.md R154). -/
def State.kept (s : State) : Word × Bool × Bool × Bool := (s.seq, s.doneIP, s.doneIE, s.errIE)

theorem State.seq_eq_of_kept {s t : State} (h : t.kept = s.kept) : t.seq = s.seq := congrArg (·.1) h

theorem State.doneIP_eq_of_kept {s t : State} (h : t.kept = s.kept) : t.doneIP = s.doneIP := congrArg (·.2.1) h

@[simp] theorem State.errorEntry_kept (s : State) (c : Cause) (info eseq : Word) : (s.errorEntry c info eseq).kept = s.kept := rfl

theorem inMode_kept {m : Mode} {s : State} (i : Instr) {f : State → State} (h : (f s).kept = s.kept) :
    (inMode m i s f).kept = s.kept := by
  rcases inMode_cases m i s f with ⟨-, he⟩ | ⟨-, he⟩ <;> rw [he]
  · exact h
  · exact s.errorEntry_kept ..

theorem LoadEffect.kept {s t : State} (h : LoadEffect s t) : t.kept = s.kept := by cases h <;> rfl

theorem State.decodeByte_kept (s : State) (b : Byte) : (s.decodeByte b).kept = s.kept := by
  unfold State.decodeByte
  split
  · rfl
  · next u hu =>
    rw [decodeKeyBits_eq hu]
    unfold State.decodeCounted
    split
    · split <;> rfl
    · rfl

theorem State.encodeByte_kept (s : State) (b : Byte) : (s.encodeByte b).kept = s.kept := by
  unfold State.encodeByte
  split
  · split
    · rfl
    · rw [State.bitPuts_eq]; rfl
  · rfl

theorem execData_kept {b : Byte} {s t : State} (h : execData b s = .next t) : t.kept = s.kept := by
  cases h
  split
  · rfl
  · unfold State.tabulateByte; split <;> rfl
  · exact s.encodeByte_kept b
  · exact (s.loadByte_effect b).kept
  · exact s.decodeByte_kept b
  · rfl

theorem State.decodeBegin_kept (s : State) : s.decodeBegin.kept = s.kept := by
  unfold State.decodeBegin
  split
  · rfl
  · split
    · rfl
    · split <;> rfl

theorem State.bitFlush_kept (s : State) : s.bitFlush.kept = s.kept := by
  rcases s.bitFlush_cases with ⟨-, he⟩ | ⟨-, he⟩ <;> rw [he] <;> rfl

theorem State.abort_kept (s : State) : s.abort.kept = s.kept := by
  unfold State.abort
  split <;> rfl

theorem State.clearErr_kept (s : State) : s.clearErr.kept = s.kept := by
  unfold State.clearErr
  split <;> rfl

theorem exec_kept {i : Instr} {s t : State} (hi : i ≠ .ctrlSoftReset) (h : exec i s = .next t) : t.kept = s.kept := by
  cases i with
  | nop | arg0 | arg1 | arg2 => cases h; rfl
  | data b => exact execData_kept h
  | histClear | histBegin | histEnd | freqSet | freqGet | cbClear | cbEmit | cbLoad | encBegin => cases h; exact inMode_kept _ rfl
  | build => cases h; exact inMode_kept _ (by rw [State.buildTree_frame]; rfl)
  | nodeGet | cbGet => cases h; exact inMode_kept _ (by split <;> rfl)
  | encFlush => cases h; exact inMode_kept _ s.bitFlush_kept
  | decBegin => cases h; exact inMode_kept _ s.decodeBegin_kept
  | ctrlSoftReset => exact absurd rfl hi
  | ctrlAbort clear =>
    cases h
    cases clear with
    | false => exact s.abort_kept
    | true => exact s.abort.clearErr_kept.trans s.abort_kept
  | ctrlClearErr => cases h; exact s.clearErr_kept

/-- No entry is a soft reset: CTRL is not a queue port (30_encoding.md R76). -/
theorem decodeEntry_ne_ctrlSoftReset {e : Entry} {i : Instr} (h : decodeEntry e = .ok i) : i ≠ .ctrlSoftReset := by
  rintro rfl
  exact nomatch encodeOfDecodeIsTheEntry e _ h

theorem dispatchEntry_kept {e : Entry} {s t : State} (h : dispatchEntry e s = .next t) : t.kept = s.kept := by
  rcases dispatchEntry_cases h with ⟨i, hd, hi⟩ | ⟨r, -, rfl⟩
  · exact exec_kept (decodeEntry_ne_ctrlSoftReset hd) hi
  · exact s.errorEntry_kept ..

/-! ### DONE_IP -/

/-- The completion rule sets DONE_IP where Q and PEND are empty outside ERROR, and clears it nowhere (R86). -/
theorem State.complete_doneIP_iff (s : State) :
    s.complete.doneIP = true ↔ s.doneIP = true ∨ (s.q = [] ∧ s.pend = [] ∧ s.mode ≠ .error) := by
  simp [and_assoc]

/-- Settles O8: both internal steps end with the completion rule, and before it neither changes DONE_IP. -/
theorem internalStepsSetDoneOnQuiescence : Obligations.InternalStepsSetDoneOnQuiescence := by
  intro s t hmove h
  rcases blockMove_cases h with ⟨e, rest, u, -, -, -, hu, rfl⟩ | ⟨-, -, rfl⟩ | ⟨hstill, -⟩
  · rw [State.complete_doneIP_iff, State.doneIP_eq_of_kept (dispatchEntry_kept hu)]
    rfl
  · exact s.drainByte.complete_doneIP_iff
  · exact absurd hmove (ne_true_of_eq_false hstill)

/-! ### SEQ -/

theorem decodeCtrl_eq_softReset {w : Word} (h : decodeCtrl w = .ok .ctrlSoftReset) : w.getLsbD 0 = true := by
  unfold decodeCtrl at h
  split at h
  · assumption
  · split at h
    · exact nomatch h
    · split at h <;> exact nomatch h

theorem eq_of_regAt_eq_ctrl {o : Nat} (h : regAt o = .ctrl) : o = 0x010 := by
  unfold regAt at h
  split at h <;> simp_all

/-- The accesses to CTRL are the 32-bit ones at offset 0x010 (10_state.md R15, 20_memory.md R57). -/
theorem access_eq_of_regAt_eq_ctrl {a : Access} (hw : a.wellFormed = true) (hr : regAt a.offset.toNat = .ctrl) :
    a = { kind := a.kind, offset := 0x010, width := 32 } := by
  obtain ⟨k, o, n⟩ := a
  have ho := eq_of_regAt_eq_ctrl hr
  simp only [Access.wellFormed, Access.wordWide, Bool.and_eq_true, beq_iff_eq] at hw ho
  obtain ⟨⟨-, rfl⟩, -⟩ := hw
  obtain rfl : o = 0x010 := by omega
  rfl

theorem State.hostRead_seq (s : State) (o : Nat) : (s.hostRead o).seq = s.seq := by
  unfold State.hostRead Reg.readEffect
  split <;> rfl

theorem State.regWrite_seq (s : State) (r : Reg) (v : Word) : (s.regWrite r v).seq = s.seq := by
  unfold State.regWrite
  split
  · unfold State.portWrite
    split
    · rfl
    · split <;> rfl
  · split <;> rfl

/-- Settles O9: counting an entry is the execute step's own, and of the moves that reset SEQ the host makes only the soft reset. -/
theorem seqCountsExactlyTheDequeuedEntries : Obligations.SeqCountsExactlyTheDequeuedEntries := by
  refine ⟨fun s t hx h => ?_, fun s t hx h => ?_, fun s t h => ?_⟩
  · obtain ⟨-, hpend, -⟩ := s.canExecute_iff.1 hx
    rcases blockMove_cases h with ⟨e, rest, u, -, -, -, hu, rfl⟩ | ⟨hp, -, -⟩ | ⟨hstill, -⟩
    · exact State.seq_eq_of_kept (dispatchEntry_kept hu)
    · exact absurd hpend hp
    · exact absurd hstill (by simp [State.canMove, hx])
  · rcases blockMove_cases h with ⟨e, rest, u, hq, hp, hm, -, -⟩ | ⟨-, -, rfl⟩ | ⟨-, rfl⟩
    · exact absurd (s.canExecute_iff.2 ⟨hm, hp, by simp [hq]⟩) (ne_true_of_eq_false hx)
    · rfl
    · rfl
  · rcases hostMove_cases h with ⟨-, rfl⟩ | ⟨a, rest, ha, hw, ⟨-, rfl⟩ | ⟨w, hk, hr, hc⟩ | ⟨w, -, -, rfl⟩⟩
    · exact .inl rfl
    · exact .inl (State.hostRead_seq ..)
    · rcases ctrlWrite_cases hc with ⟨i, hd, hi⟩ | ⟨-, rfl⟩
      · by_cases hreset : i = .ctrlSoftReset
        · refine .inr ⟨w, rest, ?_, decodeCtrl_eq_softReset (hreset ▸ hd)⟩
          rw [ha, access_eq_of_regAt_eq_ctrl hw hr, hk]
        · have hkept := exec_kept hreset hi
          exact .inl (State.seq_eq_of_kept hkept)
      · exact .inl rfl
    · exact .inl (State.regWrite_seq ..)

/-! ### Whose move a step is -/

theorem step_of_blockIsNext {s : State} (h : s.blockIsNext) : step s = blockMove { s with turns := s.turns.tail } := by
  have ht : s.nextTurn = .block := by
    rcases h with h | ⟨h, hm⟩
    · obtain ⟨ts, h⟩ := List.head?_eq_some_iff.1 h
      rw [State.nextTurn, h]
    · rw [State.nextTurn, h]
      exact if_pos hm
  rw [step, ht]
  rfl

theorem step_of_hostIsNext {s : State} (h : s.hostIsNext) : step s = hostMove { s with turns := s.turns.tail } := by
  have ht : s.nextTurn = .host := by
    rcases h with h | ⟨h, hm⟩
    · obtain ⟨ts, h⟩ := List.head?_eq_some_iff.1 h
      rw [State.nextTurn, h]
    · rw [State.nextTurn, h]
      exact if_neg (by simp [hm])
  rw [step, ht]
  rfl

/-- In ERROR the completion rule does nothing (R86). -/
theorem State.complete_of_error {s : State} (h : s.mode = .error) : s.complete = s := by
  have hdone : (s.doneIP || (s.q.isEmpty && s.pend.isEmpty && s.mode != .error)) = s.doneIP := by simp [h]
  rw [State.complete, hdone]

/-- ERR of a rejected entry (30_encoding.md R79, R80). -/
theorem errWord_rejectCause (r : Reject) : (rejectCause r).errWord = if r = .reservedField then 0x502 else 0x501 := by
  cases r <;> rfl

/-- Settles O5: the block's move is the execute step, which dispatches the head of Q. -/
theorem stepRunsTheDecodedEntry : Obligations.StepRunsTheDecodedEntry := by
  intro s e rest hnext hmode hpend hq
  have hx : ({ s with turns := s.turns.tail } : State).canExecute = true :=
    s.canExecute_iff.2 ⟨hmode, hpend, by simp [hq]⟩
  have hstep : step s =
      onNext State.complete (dispatchEntry e { s with turns := s.turns.tail, q := rest, seq := s.seq + 1 }) := by
    rw [step_of_blockIsNext hnext, blockMove_of_canExecute hx,
      executeStep_of_cons (s := { s with turns := s.turns.tail }) hq, State.dequeue, hq]
    rfl
  rw [hstep]
  refine ⟨fun i hi => ?_, fun r hr => ?_⟩
  · rw [dispatchEntry, hi]
  · rw [dispatchEntry_of_error _ _ hr, onNext_next, State.complete_of_error rfl, errWord_rejectCause, BitVec.add_sub_cancel]
    rfl

/-! ### The block comes to rest -/

theorem blockMove_turns_suffix {s t : State} (h : blockMove s = .next t) : t.turns <:+ s.turns := by
  cases blockMove_queueChange h with
  | takes h => exact h.turns
  | drains hu _ h => exact h.turns.trans hu.turns
  | enqueues hu _ _ h => exact h.turns.trans hu.turns

/-- An internal step shortens Q, or leaves Q and shortens PEND: the order by which the block comes to rest. -/
theorem blockMove_shortens {s t : State} (hm : s.canMove = true) (h : blockMove s = .next t) :
    t.q.length < s.q.length ∨ (t.q.length = s.q.length ∧ t.pend.length < s.pend.length) := by
  rcases blockMove_cases h with ⟨e, rest, u, hq, -, -, hu, rfl⟩ | ⟨hp, -, rfl⟩ | ⟨hstill, -⟩
  · have hle := (dispatchEntry_onlyTakes hu).q.length_le
    simp only [State.dequeue_q, hq, List.tail_cons] at hle
    rw [State.complete_q, hq, List.length_cons]
    exact .inl (by omega)
  · have hpos := List.length_pos_of_ne_nil hp
    rw [State.complete_pend, State.drainByte_pend, List.length_tail]
    exact .inr ⟨rfl, by omega⟩
  · exact absurd hm (ne_true_of_eq_false hstill)

/-- With no turns given and no host access to come, the block moves until no internal step is enabled. -/
theorem exists_run_canMove_false (s : State) (hturns : s.turns = []) (haccesses : s.accesses = []) :
    ∃ k t, core.run k s = .next t ∧ t.canMove = false := by
  by_cases hm : s.canMove = true
  · obtain ⟨t, ht⟩ := exists_blockMove s
    have hstep : step s = .next t := by
      rw [step_of_blockIsNext (.inr ⟨hturns, hm⟩), ← ht, hturns, List.tail_nil, ← hturns]
    have hshort := blockMove_shortens hm ht
    obtain ⟨k, u, hrun, hu⟩ := exists_run_canMove_false t
      (List.suffix_nil.1 (hturns ▸ blockMove_turns_suffix ht))
      (List.suffix_nil.1 (haccesses ▸ (blockMove_queueChange ht).accesses_suffix))
    exact ⟨k + 1, u, (run_succ_of_step (M := core) hstep k).trans hrun, hu⟩
  · exact ⟨0, s, rfl, by simpa using hm⟩
termination_by (s.q.length, s.pend.length)
decreasing_by
  exact Prod.lex_def.2 hshort

/-- Settles O11: internal steps end, since each shortens Q or PEND, and where none is enabled the block is at rest. -/
theorem blockLeftAloneComesToRest : Obligations.BlockLeftAloneComesToRest := by
  intro s hturns haccesses
  obtain ⟨k, t, hrun, hstill⟩ := exists_run_canMove_false s hturns haccesses
  refine ⟨k, t, hrun, ?_⟩
  rcases t.canMove_eq_false_iff.1 hstill with hfull | ⟨-, herror⟩ | hquiet
  · exact .inr (.inl hfull)
  · exact .inr (.inr herror)
  · exact .inl hquiet

/-! ### CTRL writes, NOP and the operand entries -/

theorem hostMove_of_ctrlWrite {s : State} {w : Word} {rest : List Access}
    (h : s.accesses = { kind := .write w, offset := 0x010, width := 32 } :: rest) :
    hostMove s = ctrlWrite w { s with accesses := rest } := by
  rw [hostMove, h]
  rfl

/-- Settles O6: the decoder of CTRL asks for the three bits in the order of R93. -/
theorem stepRunsTheCtrlWrite : Obligations.StepRunsTheCtrlWrite := by
  refine ⟨fun s => Reg.readValue_writeOnly (by decide) s, fun s w rest hnext ha => ?_⟩
  have hstep : step s = ctrlWrite w { s with turns := s.turns.tail, accesses := rest } := by
    rw [step_of_hostIsNext hnext, hostMove_of_ctrlWrite (s := { s with turns := s.turns.tail }) ha]
  rw [hstep, ctrlWrite, decodeCtrl]
  refine ⟨fun h0 => ?_, fun h0 h1 => ?_, fun h0 h1 h2 => ?_, fun h0 h1 h2 => ?_⟩
  · rw [if_pos h0]
  · rw [if_neg (ne_true_of_eq_false h0), if_pos h1]
  · rw [if_neg (ne_true_of_eq_false h0), if_neg (ne_true_of_eq_false h1), if_pos h2]
  · rw [if_neg (ne_true_of_eq_false h0), if_neg (ne_true_of_eq_false h1), if_neg (ne_true_of_eq_false h2)]

/-- Settles O17: the meanings and the encodings are the definitions, and opcode 0 has form NONE. -/
theorem nopAndOperandEntries : Obligations.NopAndOperandEntries := by
  intro s v
  refine ⟨rfl, rfl, rfl, rfl, rfl, rfl, rfl, rfl, fun w hop hz => ?_⟩
  have hnone : w.toNat / 2 ^ 24 ∈ noneOpcodes := by rw [hop]; decide
  obtain ⟨i, -, hform⟩ := decodeCmd_of_noneOpcode hnone
  exact dispatchEntry_of_error ⟨.cmd, w⟩ s (hform.trans (formNone_of_ne hz i))

theorem State.abort_eq_errorState {s : State} (h : s.mode ≠ .error) : s.abort = errorState s 0x311 0 s.seq := by
  rw [State.abort_of_ne h, State.errorEntry_eq_errorState]
  rfl

/-- Settles O18: ABORT and CLEAR_ERR each act on one side of MODE = ERROR only, and ABORT leaves ERROR for the CLEAR_ERR after it. -/
theorem ctrlActions : Obligations.CtrlActions := by
  intro s
  refine ⟨rfl, fun ht => ?_, fun h => ?_, fun h => ?_, fun h => ?_, fun h => ?_, fun h => ?_, fun h => ?_⟩
  · rw [step, ht]; rfl
  · exact congrArg _ (State.abort_eq_errorState h)
  · exact congrArg _ (State.abort_of_error h)
  · have hcleared : s.abort.clearErr = { errorState s 0 0 0 with mode := .idle } := by
      rw [State.abort_eq_errorState h, State.clearErr_of_error rfl]
      rfl
    exact congrArg _ hcleared
  · have hcleared : s.abort.clearErr = { s with mode := .idle, err := 0, errInfo := 0, errSeq := 0 } := by
      rw [State.abort_of_error h, State.clearErr_of_error h]
    exact congrArg _ hcleared
  · exact congrArg _ (State.clearErr_of_error h)
  · exact congrArg _ (State.clearErr_of_ne h)

end Sys2Proof.Machine

/-! ## What every step keeps

Beside the queues, the count of entries, the interrupt registers and the world outside the block, a step changes the state only by running
an instruction or by error entry. A property that speaks of none of these is kept by every step when those two keep it. -/

namespace Sys2Proof.Machine

/-- The states agree but for the queues, the count of entries, the interrupt registers, and the world outside the block. -/
def SameBesideQueues (s t : State) : Prop :=
  t = { s with
    q := t.q, pend := t.pend, out := t.out, seq := t.seq, doneIE := t.doneIE, errIE := t.errIE, doneIP := t.doneIP, errIP := t.errIP,
    accesses := t.accesses, turns := t.turns, reads := t.reads, draws := t.draws }

theorem State.hostRead_sameBesideQueues (s : State) (o : Nat) : SameBesideQueues s (s.hostRead o) := by
  unfold State.hostRead Reg.readEffect
  split <;> rfl

/-- Every instruction and error entry keep `P`, and `P` speaks of no item that other moves change. -/
structure KeptByExec (P : State → Prop) : Prop where
  frame {s t : State} : SameBesideQueues s t → P s → P t
  errorEntry {s : State} (c : Cause) (info eseq : Word) : P s → P (s.errorEntry c info eseq)
  exec {i : Instr} {s t : State} : exec i s = .next t → P s → P t

namespace KeptByExec

variable {P : State → Prop} (hP : KeptByExec P) {s t : State}
include hP

theorem blockMove (h : blockMove s = .next t) (hs : P s) : P t := by
  rcases blockMove_cases h with ⟨e, rest, u, -, -, -, hu, rfl⟩ | ⟨-, -, rfl⟩ | ⟨-, rfl⟩
  · have hd : P s.dequeue := hP.frame rfl hs
    refine hP.frame (s := u) rfl ?_
    rcases dispatchEntry_cases hu with ⟨i, -, hi⟩ | ⟨r, -, rfl⟩
    · exact hP.exec hi hd
    · exact hP.errorEntry _ _ _ hd
  · exact hP.frame (s := s) rfl hs
  · exact hs

theorem ctrlWrite {w : Word} (h : ctrlWrite w s = .next t) (hs : P s) : P t := by
  rcases ctrlWrite_cases h with ⟨i, -, hi⟩ | ⟨-, rfl⟩
  · exact hP.exec hi hs
  · exact hs

theorem portWrite (p : Port) (v : Word) (hs : P s) : P (s.portWrite p v) := by
  unfold State.portWrite
  split
  · exact hs
  · split
    · exact hP.errorEntry _ _ _ hs
    · exact hP.frame rfl hs

theorem regWrite (r : Reg) (v : Word) (hs : P s) : P (s.regWrite r v) := by
  unfold State.regWrite
  split
  · exact hP.portWrite _ v hs
  · split <;> exact hP.frame rfl hs

theorem hostMove (h : hostMove s = .next t) (hs : P s) : P t := by
  rcases hostMove_cases h with ⟨-, rfl⟩ | ⟨a, rest, -, -, h⟩
  · exact hs
  · have hrest : P { s with accesses := rest } := hP.frame rfl hs
    rcases h with ⟨-, rfl⟩ | ⟨w, -, -, hw⟩ | ⟨w, -, -, rfl⟩
    · exact hP.frame (State.hostRead_sameBesideQueues ..) hrest
    · exact hP.ctrlWrite hw hrest
    · exact hP.regWrite _ _ hrest

/-- The reset signal does what a soft reset does (70_reset_and_hazards.md R168). -/
theorem step (h : step s = .next t) (hs : P s) : P t := by
  have hturns : P { s with turns := s.turns.tail } := hP.frame rfl hs
  rcases step_cases h with ⟨-, h⟩ | ⟨-, h⟩ | ⟨-, rfl⟩
  · exact hP.blockMove h hturns
  · exact hP.hostMove h hturns
  · exact hP.exec (i := .ctrlSoftReset) rfl hturns

end KeptByExec

end Sys2Proof.Machine

/-! ## The bit writer

The registers of the bit writer (41_bitstream.md R98-R101) and the room that COMP_COUNT keeps for the flush byte (45_encoder.md R130,
R131). Only DATA in ENCODE, ENC.BEGIN and ENC.FLUSH write these registers, beside reset and error entry, which clear them. -/

namespace Sys2Proof.Machine

/-! ### BitPut -/

/-- BUF holds CNT bits, and COMP_COUNT does not pass 2^32 - 1 when `n` more bits are put and the last byte is flushed (R99, R130). -/
def State.hasRoomFor (s : State) (n : Nat) : Prop :=
  s.buf.toNat < 2 ^ s.cnt.toNat ∧ s.compCount.toNat + (s.cnt.toNat + n + 7) / 8 ≤ 2 ^ 32 - 1

/-- The buffer is empty, as after a byte is pushed. -/
theorem State.hasRoomFor.of_empty {s : State} {n : Nat} (hbuf : s.buf = 0) (hcnt : s.cnt = 0)
    (hcomp : s.compCount.toNat + (n + 7) / 8 ≤ 2 ^ 32 - 1) : s.hasRoomFor n :=
  ⟨by simp [hbuf, hcnt], by simpa [hcnt] using hcomp⟩

theorem encoderSound_iff {s : State} : EncoderSound s ↔ s.hasRoomFor 0 ∧ (s.mode ≠ .encode → s.cnt = 0) :=
  ⟨fun ⟨hbuf, hcnt, hcomp⟩ => ⟨⟨hbuf, hcomp⟩, hcnt⟩, fun ⟨⟨hbuf, hcomp⟩, hcnt⟩ => ⟨hbuf, hcnt, hcomp⟩⟩

/-- A bit shifted in makes a number of n bits one of n + 1. -/
theorem toNat_shiftIn_lt {buf : Byte} {n : Nat} (h : buf.toNat < 2 ^ n) (b : Bool) :
    ((buf <<< 1) ||| (if b then 1 else 0)).toNat < 2 ^ (n + 1) := by
  rw [BitVec.toNat_or]
  refine Nat.or_lt_two_pow ?_ ?_
  · rw [BitVec.toNat_shiftLeft, Nat.shiftLeft_eq, Nat.pow_succ]
    exact (Nat.mod_le ..).trans_lt (by omega)
  · have := Nat.one_lt_two_pow (Nat.succ_ne_zero n)
    cases b
    · exact Nat.two_pow_pos _
    · exact this

/-- COMP_COUNT counts a byte without wrapping. -/
theorem toNat_compCount_succ {s : State} (h : s.compCount.toNat + 1 ≤ 2 ^ 32 - 1) :
    (s.compCount + 1).toNat = s.compCount.toNat + 1 :=
  BitVec.toNat_add_of_lt (by simp; omega)

theorem State.hasRoomFor.bitPut {s : State} {n : Nat} (h : s.hasRoomFor (n + 1)) (b : Bool) : (s.bitPut b).hasRoomFor n := by
  obtain ⟨hbuf, hcomp⟩ := h
  rcases s.bitPut_cases b with ⟨h7, he⟩ | ⟨h7, he⟩ <;> rw [he]
  · refine .of_empty rfl rfl ?_
    rw [toNat_compCount_succ (by omega)]
    omega
  · have hcnt : (s.cnt + 1).toNat = s.cnt.toNat + 1 := BitVec.toNat_add_of_lt (by simp; omega)
    refine ⟨?_, ?_⟩ <;> simp only [hcnt]
    · exact toNat_shiftIn_lt hbuf b
    · omega

theorem State.hasRoomFor.bitPuts {s : State} {c : Bits} (h : s.hasRoomFor c.length) : (s.bitPuts c).hasRoomFor 0 := by
  induction c generalizing s with
  | nil => exact h
  | cons b c ih => exact ih (State.hasRoomFor.bitPut h b)

theorem State.hasRoomFor.mono {s : State} {m n : Nat} (h : s.hasRoomFor n) (hmn : m ≤ n) : s.hasRoomFor m :=
  ⟨h.1, by have := h.2; omega⟩

/-! ### What each instruction leaves in the bit writer -/

namespace EncoderSound

theorem of_cleared {s : State} (hbuf : s.buf = 0 := by rfl) (hcnt : s.cnt = 0 := by rfl) (hcomp : s.compCount = 0 := by rfl) :
    EncoderSound s :=
  encoderSound_iff.2 ⟨.of_empty hbuf hcnt (by simp [hcomp]), fun _ => hcnt⟩

/-- Outside ENCODE, a change that leaves the bit writer's registers and COMP_COUNT as they are. -/
theorem of_not_encoding {s t : State} (hs : EncoderSound s) (hm : s.mode ≠ .encode) (hbuf : t.buf = s.buf := by rfl)
    (hcnt : t.cnt = s.cnt := by rfl) (hcomp : t.compCount = s.compCount := by rfl) : EncoderSound t := by
  obtain ⟨hb, hc, hn⟩ := hs
  exact ⟨by rwa [hbuf, hcnt], fun _ => hcnt.trans (hc hm), by rwa [hcomp, hcnt]⟩

theorem errorEntry (s : State) (c : Cause) (info eseq : Word) : EncoderSound (s.errorEntry c info eseq) := .of_cleared

end EncoderSound

theorem inMode_encoderSound {m : Mode} {s : State} (i : Instr) {f : State → State} (h : s.mode = m → EncoderSound (f s)) :
    EncoderSound (inMode m i s f) := by
  rcases inMode_cases m i s f with ⟨hm, he⟩ | ⟨-, he⟩ <;> rw [he]
  · exact h hm
  · exact .errorEntry ..

/-- A command of IDLE that writes nothing of the bit writer. -/
theorem inMode_idle_encoderSound {s : State} (hs : EncoderSound s) (i : Instr) {f : State → State} (hbuf : (f s).buf = s.buf := by rfl)
    (hcnt : (f s).cnt = s.cnt := by rfl) (hcomp : (f s).compCount = s.compCount := by rfl) : EncoderSound (inMode .idle i s f) :=
  inMode_encoderSound i fun hm => hs.of_not_encoding (by simp [hm]) hbuf hcnt hcomp

/-- The check of R130 leaves room for the code and for the flush byte after it. -/
theorem State.hasRoomFor_of_not_lenOverflows {s : State} {n : Nat} (hbuf : s.buf.toNat < 2 ^ s.cnt.toNat)
    (h : ¬ s.lenOverflows n = true) : s.hasRoomFor n := by
  simp only [State.lenOverflows, Bool.or_eq_true, decide_eq_true_eq, not_or, not_lt] at h
  exact ⟨hbuf, h.2⟩

theorem State.encodeByte_encoderSound {s : State} (hs : EncoderSound s) (hm : s.mode = .encode) (b : Byte) :
    EncoderSound (s.encodeByte b) := by
  unfold State.encodeByte
  split
  · split
    · exact .errorEntry ..
    · next hlen =>
      have hroom : s.hasRoomFor (s.lutAt b).len.toNat := State.hasRoomFor_of_not_lenOverflows hs.1 hlen
      refine encoderSound_iff.2 ⟨(hroom.mono (List.length_take_le ..)).bitPuts, fun hne => absurd ?_ hne⟩
      rw [State.bitPuts_eq]
      exact hm
  · exact .errorEntry ..

theorem LoadEffect.encoderSound {s t : State} (h : LoadEffect s t) (hm : s.mode = .cbLoad) (hs : EncoderSound s) : EncoderSound t := by
  cases h with
  | raise => exact .errorEntry ..
  | collect | countZero | count | sym | len | digit | entry | lastEntry => exact hs.of_not_encoding (by simp [hm])

theorem State.decodeByte_encoderSound {s : State} (hs : EncoderSound s) (hm : s.mode = .decode) (b : Byte) :
    EncoderSound (s.decodeByte b) := by
  have hne : s.mode ≠ .encode := by simp [hm]
  unfold State.decodeByte
  split
  · exact .errorEntry ..
  · next u hu =>
    rw [decodeKeyBits_eq hu]
    unfold State.decodeCounted
    split
    · split
      · exact .errorEntry ..
      · exact hs.of_not_encoding hne
    · exact hs.of_not_encoding hne

theorem State.tabulateByte_encoderSound {s : State} (hs : EncoderSound s) (b : Byte) : EncoderSound (s.tabulateByte b) := by
  unfold State.tabulateByte
  split
  · exact .errorEntry ..
  · exact hs

theorem execData_encoderSound {b : Byte} {s t : State} (h : execData b s = .next t) (hs : EncoderSound s) : EncoderSound t := by
  cases h
  split
  · exact .errorEntry ..
  · exact State.tabulateByte_encoderSound hs b
  · next hm => exact State.encodeByte_encoderSound hs hm b
  · next hm => exact (s.loadByte_effect b).encoderSound hm hs
  · next hm => exact State.decodeByte_encoderSound hs hm b
  · exact hs

/-- The room for the flush byte is what ENC.FLUSH takes (R131). -/
theorem State.bitFlush_encoderSound {s : State} (hs : EncoderSound s) (padding : BitVec 3) :
    EncoderSound { s.bitFlush with padding := padding, mode := .idle } := by
  obtain ⟨-, -, hcomp⟩ := hs
  rcases s.bitFlush_cases with ⟨hcnt, he⟩ | ⟨hcnt, he⟩ <;> rw [he] <;>
    refine encoderSound_iff.2 ⟨.of_empty rfl rfl ?_, fun _ => rfl⟩
  · exact (Nat.add_le_add_left (by simp) _).trans hcomp
  · have hpos : s.cnt.toNat ≠ 0 := fun h0 => hcnt (BitVec.eq_of_toNat_eq h0)
    rw [toNat_compCount_succ (by omega)]
    omega

theorem State.decodeBegin_encoderSound {s : State} (hs : EncoderSound s) (hm : s.mode = .idle) : EncoderSound s.decodeBegin := by
  unfold State.decodeBegin
  split
  · exact .errorEntry ..
  · split
    · exact .errorEntry ..
    · split
      · exact .errorEntry ..
      · exact hs.of_not_encoding (by simp [hm])

theorem State.abort_encoderSound {s : State} (hs : EncoderSound s) : EncoderSound s.abort := by
  unfold State.abort
  split
  · exact hs
  · exact .errorEntry ..

theorem State.clearErr_encoderSound {s : State} (hs : EncoderSound s) : EncoderSound s.clearErr := by
  unfold State.clearErr
  split
  · next hm => exact hs.of_not_encoding (by simp [hm])
  · exact hs

theorem exec_encoderSound {i : Instr} {s t : State} (h : exec i s = .next t) (hs : EncoderSound s) : EncoderSound t := by
  cases i with
  | nop | arg0 | arg1 | arg2 => cases h; exact hs
  | data b => exact execData_encoderSound h hs
  | histClear | histBegin | freqSet | freqGet | cbClear | cbEmit | cbLoad => cases h; exact inMode_idle_encoderSound hs _
  | histEnd => cases h; exact inMode_encoderSound _ fun hm => hs.of_not_encoding (by simp [hm])
  | build =>
    cases h
    exact inMode_encoderSound _ fun _ => by rw [State.buildTree_frame]; exact hs
  | nodeGet | cbGet =>
    cases h
    refine inMode_encoderSound _ fun _ => ?_
    split <;> exact hs
  | encBegin => cases h; exact inMode_encoderSound _ fun _ => .of_cleared
  | encFlush => cases h; exact inMode_encoderSound _ fun _ => State.bitFlush_encoderSound hs _
  | decBegin => cases h; exact inMode_encoderSound _ (State.decodeBegin_encoderSound hs)
  | ctrlSoftReset => cases h; exact .of_cleared
  | ctrlAbort clear =>
    cases h
    cases clear with
    | false => exact State.abort_encoderSound hs
    | true => exact State.clearErr_encoderSound (State.abort_encoderSound hs)
  | ctrlClearErr => cases h; exact State.clearErr_encoderSound hs

theorem encoderSound_keptByExec : KeptByExec EncoderSound where
  frame h hs := by rw [h]; exact hs
  errorEntry c info eseq _ := .errorEntry _ c info eseq
  exec := exec_encoderSound

/-- Settles O54: the length check before a code leaves room for the code and a flush byte, and each bit put or flushed takes from it. -/
theorem bitWriterStaysSound : Obligations.BitWriterStaysSound := fun _ _ hs h => encoderSound_keptByExec.step h hs

end Sys2Proof.Machine

/-! ## The rules of one command

What each rule of a command says beside its effect: its opcode, its must-be-zero bits and its mode. -/

namespace Sys2Proof.Machine

theorem toNat_opcodeOf (v : Word) : (opcodeOf v).toNat = v.toNat / 2 ^ 24 := by
  rw [opcodeOf_eq_ofNat, BitVec.toNat_ofNat]
  omega

/-- The word and the mode check of a command, whose OPERAND check is given. -/
theorem commandRaises_of_reserved {i : Instr} {op used : Nat} {m : Mode} {s : State} (hcommand : i.port = some .cmd) (hnop : i ≠ .nop)
    (hop : (opcodeOf i.value).toNat = op) (hlegal : i.legalIn s.mode → s.mode = m)
    (hreserved : ∀ v : Word, v.toNat / 2 ^ 24 = op → 2 ^ used ≤ v.toNat % 2 ^ 24 →
      dispatchEntry { port := .cmd, value := v } s = .next (errorState s 0x502 v (s.seq - 1))) :
    CommandRaises i op used m s := by
  refine ⟨⟨i.value, by rw [encode, hcommand], by rw [← toNat_opcodeOf, hop]⟩, hreserved, fun hm => ?_⟩
  exact illegalInModeRaises.1 i s (beq_iff_eq.2 hcommand) hnop (mt hlegal hm)

/-- A command of form NONE raises as its rule says. -/
theorem commandRaises_of_noneOpcode {i : Instr} {op : Nat} {m : Mode} {s : State} (hform : op ∈ noneOpcodes)
    (hcommand : i.port = some .cmd := by rfl) (hnop : i ≠ .nop := by nofun) (hop : (opcodeOf i.value).toNat = op := by rfl)
    (hlegal : i.legalIn s.mode → s.mode = m := by exact id) : CommandRaises i op 0 m s :=
  commandRaises_of_reserved hcommand hnop hop hlegal fun v hv hz =>
    have ⟨_, hnone, _⟩ := rejectedEntriesRaiseUsageErrors s v
    hnone (hv ▸ hform) (Nat.pos_iff_ne_zero.1 hz)

/-- A command of form SYM8 raises as its rule says. -/
theorem commandRaises_of_symOpcode {i : Instr} {op : Nat} {m : Mode} {s : State} (hform : op ∈ symOpcodes)
    (hcommand : i.port = some .cmd := by rfl) (hnop : i ≠ .nop := by nofun)
    (hop : (opcodeOf i.value).toNat = op := by exact congrArg BitVec.toNat (opcodeOf_cmdSymWord _ _))
    (hlegal : i.legalIn s.mode → s.mode = m := by exact id) : CommandRaises i op 8 m s :=
  commandRaises_of_reserved hcommand hnop hop hlegal fun v hv hz =>
    have ⟨_, _, hsym, _⟩ := rejectedEntriesRaiseUsageErrors s v
    hsym (hv ▸ hform) hz

end Sys2Proof.Machine

/-! ## The frequency tabulator

Each command of 42_histogram.md has its effect in its mode; a tabulation pass is a list of DATA entries, each of which adds 1 to one bin. -/

namespace Sys2Proof.Machine

/-! ### Commands -/

theorem exec_histClear {s : State} (h : s.mode = .idle) : exec .histClear s = .next { s with hist := [] } :=
  congrArg _ (inMode_of_mode h _ _)

theorem exec_histBegin {s : State} (h : s.mode = .idle) : exec .histBegin s = .next { s with mode := .tabulate } :=
  congrArg _ (inMode_of_mode h _ _)

theorem exec_histEnd {s : State} (h : s.mode = .tabulate) : exec .histEnd s = .next { s with mode := .idle } :=
  congrArg _ (inMode_of_mode h _ _)

theorem exec_freqSet {s : State} (h : s.mode = .idle) (b : Byte) : exec (.freqSet b) s = .next (s.setHist b s.arg64) :=
  congrArg _ (inMode_of_mode h _ _)

theorem exec_freqGet {s : State} (h : s.mode = .idle) (b : Byte) :
    exec (.freqGet b) s = .next { s with
      result0 := 0, result1 := (s.histAt b).extractLsb' 0 32, result2 := (s.histAt b).extractLsb' 32 32 } :=
  congrArg _ (inMode_of_mode h _ _)

/-- Settles O26: in its mode each command is one record update, and an empty HIST reads 0 everywhere. -/
theorem histogramCommands : Obligations.HistogramCommands := by
  intro s
  refine ⟨fun h => ⟨_, exec_histClear h, fun _ => rfl, rfl⟩, exec_histBegin, exec_histEnd, ?_, ?_, ?_⟩
  · exact commandRaises_of_noneOpcode (by decide)
  · exact commandRaises_of_noneOpcode (by decide)
  · exact commandRaises_of_noneOpcode (by decide)

theorem State.arg64_toNat (s : State) : s.arg64.toNat = s.arg1.toNat * 2 ^ 32 + s.arg0.toNat := toNat_append_eq _ _

/-- The two halves of a 64-bit number are read as the number (20_memory.md R56). -/
theorem toNat_halves (v : BitVec 64) : (v.extractLsb' 32 32).toNat * 2 ^ 32 + (v.extractLsb' 0 32).toNat = v.toNat := by
  have happend : v.extractLsb' 32 32 ++ v.extractLsb' 0 32 = v := BitVec.extractLsb'_append_extractLsb'
  rw [← toNat_append_eq, happend]

theorem State.histAt_setHist_same {s : State} (h : Memory.wf 0 256 s.hist = true) (b : Byte) (v : BitVec 64) :
    (s.setHist b v).histAt b = v := by
  rw [State.histAt_setHist h, if_pos rfl]

theorem State.histAt_setHist_of_ne {s : State} (h : Memory.wf 0 256 s.hist = true) {b c : Byte} (hc : c ≠ b) (v : BitVec 64) :
    (s.setHist b v).histAt c = s.histAt c := by
  rw [State.histAt_setHist h, if_neg hc]

/-- Settles O27: FREQ.SET is one write to HIST, and FREQ.GET splits what it reads there into its halves. -/
theorem frequencyCommandsAccessOneBin : Obligations.FrequencyCommandsAccessOneBin := by
  intro s b
  refine ⟨commandRaises_of_symOpcode (by decide), commandRaises_of_symOpcode (by decide), fun hm hs => ?_, fun hm => ?_⟩
  · refine ⟨_, exec_freqSet hm b, rfl, ?_, fun c hc => State.histAt_setHist_of_ne hs.1 hc _⟩
    rw [State.histAt_setHist_same hs.1, State.arg64_toNat]
  · exact ⟨_, exec_freqGet hm b, rfl, toNat_halves _⟩

/-! ### DATA in TABULATE -/

/-- The state with one more occurrence of a byte in its bin. -/
def State.countByte (s : State) (b : Byte) : State := s.setHist b (s.histAt b + 1)

theorem State.countByte_mode (s : State) (b : Byte) : (s.countByte b).mode = s.mode := rfl

theorem State.countByte_wf {s : State} (h : Memory.wf 0 256 s.hist = true) (b : Byte) :
    Memory.wf 0 256 (s.countByte b).hist = true :=
  State.setHist_wf h b _

theorem State.histAt_countByte_same {s : State} (h : Memory.wf 0 256 s.hist = true) {b : Byte} (hb : (s.histAt b).toNat ≠ 2 ^ 64 - 1) :
    ((s.countByte b).histAt b).toNat = (s.histAt b).toNat + 1 := by
  rw [State.countByte, State.histAt_setHist_same h]
  exact BitVec.toNat_add_of_lt (by have := (s.histAt b).isLt; change _ + 1 < _; omega)

theorem State.histAt_countByte_of_ne {s : State} (h : Memory.wf 0 256 s.hist = true) {b c : Byte} (hc : c ≠ b) :
    (s.countByte b).histAt c = s.histAt c :=
  State.histAt_setHist_of_ne h hc _

/-- The model's test for a full bin, in plain numbers. -/
theorem eq_allOnes_iff_toNat (v : BitVec 64) : v = BitVec.allOnes 64 ↔ v.toNat = 2 ^ 64 - 1 := by
  rw [← BitVec.toNat_inj, BitVec.toNat_allOnes]

/-- A bin that is not full takes the byte. -/
theorem exec_data_of_tabulate {s : State} (hm : s.mode = .tabulate) {b : Byte} (hb : (s.histAt b).toNat ≠ 2 ^ 64 - 1) :
    exec (.data b) s = .next (s.countByte b) := by
  simp only [exec, execData, hm, State.tabulateByte, if_neg (mt (eq_allOnes_iff_toNat _).1 hb)]
  rfl

/-- A full bin raises FREQ_OVERFLOW. -/
theorem exec_data_of_full {s : State} (hm : s.mode = .tabulate) {b : Byte} (hb : (s.histAt b).toNat = 2 ^ 64 - 1) :
    exec (.data b) s = .next (errorState s 0x505 (b.setWidth 32) (s.seq - 1)) := by
  simp only [exec, execData, hm, State.tabulateByte, if_pos ((eq_allOnes_iff_toNat _).2 hb), State.raise_eq, State.errorEntry_eq_errorState,
    value_data]
  rfl

/-- Settles O28: a bin below 2^64 - 1 has room for one more. -/
theorem tabulateCountsTheByte : Obligations.TabulateCountsTheByte := by
  intro s b hs hm
  refine ⟨fun hb => ⟨s.countByte b, exec_data_of_tabulate hm hb, rfl, ?_, fun c hc => ?_⟩, exec_data_of_full hm⟩
  · exact State.histAt_countByte_same hs.1 hb
  · exact State.histAt_countByte_of_ne hs.1 hc

/-! ### A tabulation pass -/

theorem runInstrs_cons {i : Instr} {s t : State} (h : exec i s = .next t) (is : List Instr) :
    runInstrs (i :: is) s = runInstrs is t := by
  rw [runInstrs, h]

theorem runInstrs_append {is : List Instr} {s t : State} (h : runInstrs is s = .next t) (js : List Instr) :
    runInstrs (is ++ js) s = runInstrs js t := by
  induction is generalizing s with
  | nil => cases h; rfl
  | cons i is ih =>
    obtain ⟨u, hu⟩ := exists_exec i s
    rw [runInstrs_cons hu] at h
    rw [List.cons_append, runInstrs_cons hu, ih h]

/-- Where no bin overflows, the DATA entries of a stream count each of its bytes and change nothing else. -/
theorem runInstrs_data_of_tabulate {s : State} (hm : s.mode = .tabulate) (hs : Memory.wf 0 256 s.hist = true) (xs : List Byte)
    (hfit : ∀ b, (s.histAt b).toNat + xs.count b < 2 ^ 64) :
    ∃ t, runInstrs (xs.map .data) s = .next t ∧ t = { s with hist := t.hist } ∧
      ∀ b, (t.histAt b).toNat = (s.histAt b).toNat + xs.count b := by
  induction xs generalizing s with
  | nil => exact ⟨s, rfl, rfl, fun _ => rfl⟩
  | cons x xs ih =>
    have hroom : (s.histAt x).toNat ≠ 2 ^ 64 - 1 := by
      have := hfit x
      rw [List.count_cons_self] at this
      omega
    have hcount (b : Byte) : ((s.countByte x).histAt b).toNat + xs.count b = (s.histAt b).toNat + (x :: xs).count b := by
      by_cases hb : b = x
      · rw [hb, State.histAt_countByte_same hs hroom, List.count_cons_self, Nat.add_right_comm, Nat.add_assoc]
      · rw [State.histAt_countByte_of_ne hs hb, List.count_cons_of_ne (Ne.symm hb)]
    obtain ⟨t, hrun, hframe, hbins⟩ :=
      ih ((s.countByte_mode x).trans hm) (State.countByte_wf hs x) fun b => hcount b ▸ hfit b
    exact ⟨t, (runInstrs_cons (exec_data_of_tabulate hm hroom) _).trans hrun, hframe, fun b => (hbins b).trans (hcount b)⟩

/-- Settles O29: between HIST.BEGIN and HIST.END each DATA entry counts its byte, by induction over the stream. -/
theorem tabulationCountsOccurrences : Obligations.TabulationCountsOccurrences := by
  intro s xs hs hm hfit
  obtain ⟨t, hdata, hframe, hbins⟩ := runInstrs_data_of_tabulate (s := { s with mode := .tabulate }) rfl hs.1 xs hfit
  have hend : exec .histEnd t = .next { t with mode := .idle } := exec_histEnd (congrArg State.mode hframe)
  refine ⟨{ t with mode := .idle }, ?_, ?_, hbins⟩
  · rw [List.append_assoc, List.singleton_append, runInstrs_cons (exec_histBegin hm), runInstrs_append hdata, runInstrs_cons hend]
    rfl
  · rw [hframe, ← hm]

end Sys2Proof.Machine

/-! ## The arena of BUILD, node by node

The loop of 43_tree_builder.md R112 adds one node a turn and changes no earlier one, so what it says of a node at its turn still holds of the
arena it ends with. -/

namespace Sys2Proof.Machine

/-! ### The order of extraction -/

/-- FREQ of a node, in plain numbers. -/
def freqAt (node : Memory Node) (i : Nat) : Nat := (Memory.read Node.zero node i).freq.toNat

/-- What the order of extraction compares: the frequency, then the index (00_scope.md R8). -/
def extractionKey (node : Memory Node) (i : Nat) : Nat ×ₗ Nat := toLex (freqAt node i, i)

theorem extractionKey_injective (node : Memory Node) : Function.Injective (extractionKey node) := fun _ _ h =>
  congrArg (fun k => (ofLex k).2) h

theorem extractionKey_lt_iff {node : Memory Node} {i j : Nat} :
    extractionKey node i < extractionKey node j ↔ freqAt node i < freqAt node j ∨ (freqAt node i = freqAt node j ∧ i < j) :=
  Prod.Lex.toLex_lt_toLex

theorem nodeBefore_iff {node : Memory Node} {i j : Nat} :
    nodeBefore node i j = true ↔ extractionKey node i < extractionKey node j := by
  simp [nodeBefore, extractionKey_lt_iff, freqAt]

theorem leastOf_key_le (node : Memory Node) (i : Nat) (is : List Nat) :
    ∀ x ∈ i :: is, extractionKey node (leastOf node i is) ≤ extractionKey node x := by
  induction is generalizing i with
  | nil => exact fun x hx => (List.mem_singleton.1 hx) ▸ le_rfl
  | cons j js ih =>
    intro x hx
    rw [leastOf]
    split
    · next hji =>
      rcases List.mem_cons.1 hx with rfl | hx
      · exact (ih j j List.mem_cons_self).trans (nodeBefore_iff.1 hji).le
      · exact ih j x hx
    · next hji =>
      have hi := ih i i List.mem_cons_self
      rcases List.mem_cons.1 hx with rfl | hx
      · exact hi
      · rcases List.mem_cons.1 hx with rfl | hx
        · exact hi.trans (not_lt.1 (mt nodeBefore_iff.2 hji))
        · exact ih i x (List.mem_cons_of_mem i hx)

/-- Extraction takes the one element that is before every other. -/
theorem extractLeast_key_lt {node : Memory Node} {pq pq' : List Nat} {i : Nat} (hn : pq.Nodup)
    (h : extractLeast node pq = some (i, pq')) : ∀ x ∈ pq', extractionKey node i < extractionKey node x := by
  intro x hx
  have hp := extractLeast_perm h
  have hne : i ≠ x := fun he => (List.nodup_cons.1 (hp.nodup_iff.1 hn)).1 (he ▸ hx)
  refine lt_of_le_of_ne ?_ ((extractionKey_injective node).ne hne)
  cases pq with
  | nil => cases h
  | cons j js =>
    obtain ⟨rfl, -⟩ := Prod.mk.inj (Option.some.inj h)
    exact leastOf_key_le node j js x (hp.mem_iff.2 (List.mem_cons_of_mem _ hx))

/-! ### Nodes that no internal node has joined -/

/-- An internal node below `k`, the leaves being the first `n` nodes, has `x` as a child. -/
def Joined (node : Memory Node) (n k x : Nat) : Prop :=
  ∃ j, n ≤ j ∧ j < k ∧
    ((Memory.read Node.zero node j).left.toNat = x ∨ (Memory.read Node.zero node j).right.toNat = x)

/-- Node `x` stands below `k`, and no internal node below `k` has joined it. -/
def Unjoined (node : Memory Node) (n k x : Nat) : Prop := x < k ∧ ¬ Joined node n k x

theorem joined_succ {node : Memory Node} {n k x : Nat} (hk : n ≤ k) :
    Joined node n (k + 1) x ↔
      Joined node n k x ∨ (Memory.read Node.zero node k).left.toNat = x ∨ (Memory.read Node.zero node k).right.toNat = x := by
  constructor
  · rintro ⟨j, hj, hjk, hc⟩
    rcases Nat.lt_succ_iff_lt_or_eq.1 hjk with hjk | rfl
    · exact .inl ⟨j, hj, hjk, hc⟩
    · exact .inr hc
  · rintro (⟨j, hj, hjk, hc⟩ | hc)
    · exact ⟨j, hj, Nat.lt_succ_of_lt hjk, hc⟩
    · exact ⟨k, hk, Nat.lt_succ_self k, hc⟩

section
variable {node node' : Memory Node} {n k : Nat}

theorem joined_congr (h : ∀ i < k, Memory.read Node.zero node' i = Memory.read Node.zero node i) (x : Nat) :
    Joined node' n k x ↔ Joined node n k x := by
  refine exists_congr fun j => and_congr_right fun _ => and_congr_right fun hj => ?_
  rw [h j hj]

theorem unjoined_congr (h : ∀ i < k, Memory.read Node.zero node' i = Memory.read Node.zero node i) (x : Nat) :
    Unjoined node' n k x ↔ Unjoined node n k x :=
  and_congr_right fun _ => not_congr (joined_congr h x)

theorem extractionKey_congr {i : Nat} (h : Memory.read Node.zero node' i = Memory.read Node.zero node i) :
    extractionKey node' i = extractionKey node i := by
  rw [extractionKey, freqAt, h]
  rfl

end

/-- Node `k` is internal and joins, of the nodes below it that are not joined yet, the least and the next least (R112); its frequency is the
exact sum of theirs (R113). -/
structure IsJoin (node : Memory Node) (n k l r : Nat) : Prop where
  internal : (Memory.read Node.zero node k).leaf = false
  left : (Memory.read Node.zero node k).left.toNat = l
  right : (Memory.read Node.zero node k).right.toNat = r
  freq : freqAt node k = freqAt node l + freqAt node r
  unjoined_left : Unjoined node n k l
  unjoined_right : Unjoined node n k r
  left_lt_right : extractionKey node l < extractionKey node r
  right_lt : ∀ x, Unjoined node n k x → x ≠ l → x ≠ r → extractionKey node r < extractionKey node x

/-- What a join says depends on the nodes up to it only. -/
theorem IsJoin.congr {node node' : Memory Node} {n k l r : Nat} (h : IsJoin node n k l r)
    (he : ∀ i ≤ k, Memory.read Node.zero node' i = Memory.read Node.zero node i) : IsJoin node' n k l r := by
  have hu := unjoined_congr (n := n) fun i (hi : i < k) => he i hi.le
  have hk {i : Nat} (hi : i < k) := extractionKey_congr (he i hi.le)
  have hl := h.unjoined_left.1
  have hr := h.unjoined_right.1
  refine ⟨?_, ?_, ?_, ?_, (hu l).2 h.unjoined_left, (hu r).2 h.unjoined_right, ?_, fun x hx hxl hxr => ?_⟩
  · rw [he k le_rfl, h.internal]
  · rw [he k le_rfl, h.left]
  · rw [he k le_rfl, h.right]
  · simpa only [freqAt, he k le_rfl, he l hl.le, he r hr.le] using h.freq
  · simpa only [hk hl, hk hr] using h.left_lt_right
  · simpa only [hk hr, hk hx.1] using h.right_lt x ((hu x).1 hx) hxl hxr

/-! ### The loop's invariant -/

/-- The sum of all bins that are counted (R113). -/
def State.total (s : State) : Nat := (s.countedSymbols.map fun b => (s.histAt b).toNat).sum

/-- 256 bins of 64 bits fit 72 bits together (R113). -/
theorem State.total_lt (s : State) : s.total < 2 ^ 72 := by
  have hsum := List.sum_le_card_nsmul (s.countedSymbols.map fun b => (s.histAt b).toNat) (2 ^ 64 - 1) fun x hx => by
    obtain ⟨b, -, rfl⟩ := List.mem_map.1 hx
    exact Nat.le_sub_one_of_lt (s.histAt b).isLt
  have hlen := s.length_countedSymbols_le
  rw [List.length_map, smul_eq_mul] at hsum
  rw [State.total]
  omega

/-- The arena over the histogram of `s` when `next` nodes stand in it: the leaves, a join at every node after them, and in PQ the nodes that
are not joined, whose frequencies add up to those of all bins. -/
structure Arena (s : State) (node : Memory Node) (pq : List Nat) (next : Nat) : Prop
    extends JoinInv s.countedSymbols node pq next where
  leaves : ∀ i (hi : i < s.countedSymbols.length), Memory.read Node.zero node i = leafNode s.hist s.countedSymbols[i].toNat
  joins : ∀ k, s.countedSymbols.length ≤ k → k < next → ∃ l r, IsJoin node s.countedSymbols.length k l r
  mem_pq : ∀ x, x ∈ pq ↔ Unjoined node s.countedSymbols.length next x
  nodup : pq.Nodup
  total : (pq.map (freqAt node)).sum = s.total
  leaves_le : s.countedSymbols.length ≤ next

/-- A node that is joined stands before another node of the arena. -/
theorem Arena.succ_lt_of_joined {s : State} {node : Memory Node} {pq : List Nat} {next x : Nat} (h : Arena s node pq next)
    (hx : Joined node s.countedSymbols.length next x) : x + 1 < next := by
  obtain ⟨k, hnk, hk, hc⟩ := hx
  obtain ⟨l, r, hj⟩ := h.joins k hnk hk
  have hl := hj.unjoined_left.1
  have hr := hj.unjoined_right.1
  rw [hj.left, hj.right] at hc
  omega

/-- PQ gives up its least element `i` and then its next least `j`. -/
structure Extracts (node : Memory Node) (pq : List Nat) (i j : Nat) (rest : List Nat) : Prop where
  perm : pq.Perm (i :: j :: rest)
  first : ∀ x ∈ j :: rest, extractionKey node i < extractionKey node x
  second : ∀ x ∈ rest, extractionKey node j < extractionKey node x

theorem extracts_of_extractLeast {node : Memory Node} {pq pq1 pq2 : List Nat} {i j : Nat} (hn : pq.Nodup)
    (h1 : extractLeast node pq = some (i, pq1)) (h2 : extractLeast node pq1 = some (j, pq2)) : Extracts node pq i j pq2 := by
  have hp1 := extractLeast_perm h1
  have hp2 := extractLeast_perm h2
  have hn1 := (List.nodup_cons.1 (hp1.nodup_iff.1 hn)).2
  exact ⟨hp1.trans (hp2.cons i), fun x hx => extractLeast_key_lt hn h1 x (hp2.mem_iff.2 hx), extractLeast_key_lt hn1 h2⟩

/-- The arena with the node that joins `i` and `j` at index `next`. -/
def addJoin (node : Memory Node) (next i j : Nat) : Memory Node := Memory.write Node.zero node next (joinNode node i j)

section
variable {s : State} {node : Memory Node} {pq rest : List Nat} {next i j : Nat} (h : Arena s node pq next)
include h

theorem Arena.read_addJoin_same (i j : Nat) : Memory.read Node.zero (addJoin node next i j) next = joinNode node i j := by
  rw [addJoin, Memory.read_write h.wf, if_pos rfl]

theorem Arena.read_addJoin_of_lt (i j : Nat) {x : Nat} (hx : x < next) :
    Memory.read Node.zero (addJoin node next i j) x = Memory.read Node.zero node x := by
  rw [addJoin, Memory.read_write h.wf, if_neg (Nat.ne_of_lt hx)]

theorem Arena.freqAt_addJoin_of_lt (i j : Nat) {x : Nat} (hx : x < next) : freqAt (addJoin node next i j) x = freqAt node x := by
  rw [freqAt, h.read_addJoin_of_lt i j hx]
  rfl

variable (he : Extracts node pq i j rest)
include he

theorem Arena.next_lt : next < 511 := by
  have hsize := h.size
  have hpq := he.perm.length_eq
  have hn := s.length_countedSymbols_le
  simp only [List.length_cons] at hpq
  omega

theorem Arena.unjoined_first : Unjoined node s.countedSymbols.length next i :=
  (h.mem_pq i).1 (he.perm.mem_iff.2 List.mem_cons_self)

theorem Arena.unjoined_second : Unjoined node s.countedSymbols.length next j :=
  (h.mem_pq j).1 (he.perm.mem_iff.2 (List.mem_cons_of_mem i List.mem_cons_self))

/-- LEFT of the new node: the index fits its nine bits. -/
theorem Arena.toNat_left_joinNode : (joinNode node i j).left.toNat = i :=
  Nat.mod_eq_of_lt (by have := (h.unjoined_first he).1; have := h.next_lt he; change _ < 512; omega)

/-- RIGHT of the new node: the index fits its nine bits. -/
theorem Arena.toNat_right_joinNode : (joinNode node i j).right.toNat = j :=
  Nat.mod_eq_of_lt (by have := (h.unjoined_second he).1; have := h.next_lt he; change _ < 512; omega)

theorem Arena.sum_extracts : freqAt node i + (freqAt node j + (rest.map (freqAt node)).sum) = s.total := by
  rw [← h.total, (he.perm.map _).sum_eq]
  rfl

/-- The sum of two frequencies of PQ does not wrap at 72 bits (R113). -/
theorem Arena.freqAt_addJoin_same : freqAt (addJoin node next i j) next = freqAt node i + freqAt node j := by
  rw [freqAt, h.read_addJoin_same]
  refine BitVec.toNat_add_of_lt ?_
  have := h.sum_extracts he
  have := s.total_lt
  change freqAt node i + freqAt node j < _
  omega

theorem Arena.mem_rest_iff (x : Nat) :
    x ∈ rest ↔ Unjoined node s.countedSymbols.length next x ∧ x ≠ i ∧ x ≠ j := by
  obtain ⟨hi, hn⟩ := List.nodup_cons.1 (he.perm.nodup_iff.1 h.nodup)
  obtain ⟨hj, -⟩ := List.nodup_cons.1 hn
  rw [← h.mem_pq, he.perm.mem_iff, List.mem_cons, List.mem_cons]
  constructor
  · exact fun hx => ⟨.inr (.inr hx), fun e => hi (e ▸ List.mem_cons_of_mem j hx), fun e => hj (e ▸ hx)⟩
  · rintro ⟨hx | hx | hx, hxi, hxj⟩
    · exact absurd hx hxi
    · exact absurd hx hxj
    · exact hx

/-- The new node joins the two least. -/
theorem Arena.isJoin_addJoin : IsJoin (addJoin node next i j) s.countedSymbols.length next i j := by
  have hi := h.unjoined_first he
  have hj := h.unjoined_second he
  have hold {x : Nat} (hx : x < next) := h.read_addJoin_of_lt i j hx
  have hu := unjoined_congr (n := s.countedSymbols.length) fun x (hx : x < next) => hold hx
  have hkey {x : Nat} (hx : x < next) := extractionKey_congr (hold hx)
  refine ⟨?_, ?_, ?_, ?_, (hu i).2 hi, (hu j).2 hj, ?_, fun x hx hxi hxj => ?_⟩
  · rw [h.read_addJoin_same]; rfl
  · rw [h.read_addJoin_same, h.toNat_left_joinNode he]
  · rw [h.read_addJoin_same, h.toNat_right_joinNode he]
  · rw [h.freqAt_addJoin_same he, h.freqAt_addJoin_of_lt i j hi.1, h.freqAt_addJoin_of_lt i j hj.1]
  · rw [hkey hi.1, hkey hj.1]
    exact he.first j List.mem_cons_self
  · rw [hkey hj.1, hkey hx.1]
    exact he.second x ((h.mem_rest_iff he x).2 ⟨(hu x).1 hx, hxi, hxj⟩)

/-- After the turn PQ holds the nodes that are not joined. -/
theorem Arena.mem_pq_addJoin (x : Nat) :
    x ∈ rest ++ [next] ↔ Unjoined (addJoin node next i j) s.countedSymbols.length (next + 1) x := by
  have hnew := h.isJoin_addJoin he
  have hold := joined_congr (n := s.countedSymbols.length) (fun y (hy : y < next) => h.read_addJoin_of_lt i j hy) x
  have hi := (h.unjoined_first he).1
  have hj := (h.unjoined_second he).1
  rw [List.mem_append, List.mem_singleton, h.mem_rest_iff he, Unjoined, Unjoined, joined_succ h.leaves_le, hold, hnew.left, hnew.right]
  constructor
  · rintro (⟨⟨hx, hu⟩, hxi, hxj⟩ | rfl)
    · exact ⟨by omega, fun hc => hc.elim hu (by omega)⟩
    · exact ⟨by omega, fun hc => hc.elim (fun hc => absurd (h.succ_lt_of_joined hc) (by omega)) (by omega)⟩
  · rintro ⟨hx, hu⟩
    obtain ⟨hu, hc⟩ := not_or.1 hu
    by_cases hxn : x = next
    · exact .inr hxn
    · exact .inl ⟨⟨by omega, hu⟩, by omega, by omega⟩

/-- One turn of the loop keeps the arena's invariant. -/
theorem Arena.join : Arena s (addJoin node next i j) (rest ++ [next]) (next + 1) := by
  have hn := h.leaves_le
  have hrest {x : Nat} (hx : x ∈ rest) : x < next := ((h.mem_rest_iff he x).1 hx).1.1
  refine ⟨h.toJoinInv.join s.length_countedSymbols_le he.perm (.refl _), fun x hx => ?_, fun k hk hkn => ?_, h.mem_pq_addJoin he, ?_, ?_,
    by omega⟩
  · rw [h.read_addJoin_of_lt i j (by omega), h.leaves x hx]
  · rcases Nat.lt_succ_iff_lt_or_eq.1 hkn with hkn | rfl
    · obtain ⟨l, r, hj⟩ := h.joins k hk hkn
      exact ⟨l, r, hj.congr fun x hx => h.read_addJoin_of_lt i j (by omega)⟩
    · exact ⟨i, j, h.isJoin_addJoin he⟩
  · have hnd := (List.nodup_cons.1 (List.nodup_cons.1 (he.perm.nodup_iff.1 h.nodup)).2).2
    exact hnd.append (List.nodup_singleton next) (List.disjoint_singleton.2 fun hx => (hrest hx).ne rfl)
  · have hold : rest.map (freqAt (addJoin node next i j)) = rest.map (freqAt node) :=
      List.map_congr_left fun x hx => h.freqAt_addJoin_of_lt i j (hrest hx)
    rw [List.map_append, List.sum_append, hold, List.map_singleton, List.sum_singleton, h.freqAt_addJoin_same he, ← h.sum_extracts he]
    omega

end

/-- What every turn of the loop keeps, the loop keeps. -/
theorem joinLoop_induction {P : Memory Node → List Nat → Nat → Prop}
    (hP : ∀ {node pq pq1 pq2 next i j}, P node pq next → extractLeast node pq = some (i, pq1) → extractLeast node pq1 = some (j, pq2) →
      P (addJoin node next i j) (pq2 ++ [next]) (next + 1))
    (k : Nat) {node : Memory Node} {pq : List Nat} {next : Nat} (h : P node pq next) :
    P (joinLoop k node pq next).1 (joinLoop k node pq next).2.1 (joinLoop k node pq next).2.2 := by
  induction k generalizing node pq next with
  | zero => exact h
  | succ k ih =>
    rw [joinLoop]
    split
    · exact h
    · next h1 =>
      split
      · exact h
      · next h2 => exact ih (hP h h1 h2)

/-! ### Where the loop begins -/

theorem read_leafNodes (hist : Memory (BitVec 64)) {syms : List Nat} (hn : syms.length ≤ 256) {i : Nat} (hi : i < syms.length) :
    Memory.read Node.zero (leafNodes hist syms) i = leafNode hist syms[i] := by
  induction syms using List.reverseRecOn with
  | nil => exact absurd hi (Nat.not_lt_zero i)
  | append_singleton syms b ih =>
    rw [List.length_append, List.length_singleton] at hn hi
    rw [leafNodes_snoc, Memory.read_write (leafNodes_joinInv hist (by omega)).wf]
    split
    · next h => simp [h]
    · rw [ih (by omega) (by omega), List.getElem_append_left (by omega)]

theorem State.length_presentSymbols (s : State) : (presentSymbols s.hist).length = s.countedSymbols.length := by
  rw [s.countedSymbols_eq, List.length_map]

theorem State.toNat_getElem_countedSymbols (s : State) {i : Nat} (hi : i < s.countedSymbols.length) :
    s.countedSymbols[i].toNat = (presentSymbols s.hist)[i]'(s.length_presentSymbols ▸ hi) := by
  have hb := (List.mem_filter.1 (List.getElem_mem (l := presentSymbols s.hist) (s.length_presentSymbols ▸ hi))).1
  simp only [s.countedSymbols_eq, List.getElem_map, BitVec.toNat_ofNat]
  exact Nat.mod_eq_of_lt (List.mem_range.1 hb)

theorem State.freq_leafNode (s : State) (b : Byte) : (leafNode s.hist b.toNat).freq.toNat = (s.histAt b).toNat := by
  simp only [leafNode, BitVec.toNat_setWidth]
  exact Nat.mod_eq_of_lt ((s.histAt b).isLt.trans (by decide))

/-- The leaves are an arena in which nothing is joined. -/
theorem State.arena_leafNodes (s : State) :
    Arena s (leafNodes s.hist (presentSymbols s.hist)) (List.range (presentSymbols s.hist).length) (presentSymbols s.hist).length := by
  have hn := length_presentSymbols_le s.hist
  have hlen := s.length_presentSymbols
  have hleaf (i : Nat) (hi : i < s.countedSymbols.length) :
      Memory.read Node.zero (leafNodes s.hist (presentSymbols s.hist)) i = leafNode s.hist s.countedSymbols[i].toNat := by
    rw [read_leafNodes s.hist hn (hlen ▸ hi), s.toNat_getElem_countedSymbols]
  refine ⟨?_, hleaf, fun k hk hkn => by omega, fun x => ?_, List.nodup_range, congrArg List.sum ?_, hlen.ge⟩
  · rw [s.countedSymbols_eq]
    exact leafNodes_joinInv s.hist hn
  · rw [List.mem_range, Unjoined, Joined]
    exact ⟨fun hx => ⟨hx, fun ⟨j, _, _, _⟩ => by omega⟩, And.left⟩
  · refine List.ext_getElem (by simp [hlen]) fun i _ hi => ?_
    rw [List.length_map] at hi
    simp only [List.getElem_map, List.getElem_range, freqAt, hleaf i hi, s.freq_leafNode]

/-- The node written last is not joined. -/
theorem Arena.last_mem_pq {s : State} {node : Memory Node} {pq : List Nat} {last : Nat} (h : Arena s node pq (last + 1)) : last ∈ pq :=
  (h.mem_pq last).2 ⟨Nat.lt_succ_self last, fun hj => absurd (h.succ_lt_of_joined hj) (Nat.lt_irrefl _)⟩

/-! ### The arena that BUILD leaves -/

theorem State.presentSymbols_ne_nil {s : State} (h : s.countedSymbols ≠ []) : presentSymbols s.hist ≠ [] := fun hn =>
  h (by rw [s.countedSymbols_eq, hn, List.map_nil])

/-- BUILD leaves an arena with the root alone in PQ. -/
theorem State.buildTree_arena {s : State} (h : s.countedSymbols ≠ []) :
    s.buildTree.treeValid = true ∧
      Arena s s.buildTree.node [s.buildTree.treeIndex.toNat] s.buildTree.nodeCount.toNat := by
  have h := State.presentSymbols_ne_nil h
  obtain ⟨-, root, hr⟩ := State.joined_joinInv h
  have ha : Arena s s.joined.1 s.joined.2.1 s.joined.2.2 :=
    joinLoop_induction (P := Arena s) (fun ha h1 h2 => ha.join (extracts_of_extractLeast ha.nodup h1 h2)) _ s.arena_leafNodes
  rw [hr] at ha
  have hlen := s.length_countedSymbols_le
  have hsize := ha.size
  have hroot := ((ha.mem_pq root).1 List.mem_cons_self).1
  rw [List.length_singleton] at hsize
  rw [State.buildTree_of_ne_nil h hr]
  refine ⟨rfl, ?_⟩
  have h9 : (BitVec.ofNat 9 root).toNat = root := Nat.mod_eq_of_lt (by omega)
  have h10 : (BitVec.ofNat 10 s.joined.2.2).toNat = s.joined.2.2 := Nat.mod_eq_of_lt (by omega)
  simpa only [h9, h10] using ha

theorem exec_build {s : State} (h : s.mode = .idle) : exec .build s = .next s.buildTree := congrArg _ (inMode_of_mode h _ _)

theorem eq_buildTree {s t : State} (hm : s.mode = .idle) (h : exec .build s = .next t) : t = s.buildTree := by
  rw [exec_build hm] at h
  cases h
  rfl

section
variable {s u : State} (h : Arena s u.node [u.treeIndex.toNat] u.nodeCount.toNat)
include h

theorem Arena.root_succ_eq : u.treeIndex.toNat + 1 = u.nodeCount.toNat := by
  have hroot := ((h.mem_pq _).1 List.mem_cons_self).1
  obtain ⟨last, hlast⟩ : ∃ last, u.nodeCount.toNat = last + 1 := ⟨u.nodeCount.toNat - 1, by omega⟩
  rw [hlast] at h
  rw [hlast, List.mem_singleton.1 h.last_mem_pq]

theorem Arena.nodeAt_leaf {i : Nat} (hi : i < s.countedSymbols.length) : u.nodeAt i = leafNode s.hist s.countedSymbols[i].toNat :=
  h.leaves i hi

theorem Arena.sym_leaf {i : Nat} (hi : i < s.countedSymbols.length) : (u.nodeAt i).sym = s.countedSymbols[i] := by
  rw [h.nodeAt_leaf hi, leafNode, BitVec.ofNat_toNat, BitVec.setWidth_eq]

/-- The nodes after the leaves are the joins. -/
theorem Arena.isJoin {k : Nat} (hn : s.countedSymbols.length ≤ k) (hk : k < u.nodeCount.toNat) :
    IsJoin u.node s.countedSymbols.length k (u.nodeAt k).left.toNat (u.nodeAt k).right.toNat := by
  obtain ⟨l, r, hj⟩ := h.joins k hn hk
  rwa [State.nodeAt, hj.left, hj.right]

theorem Arena.leaf_iff {i : Nat} (hi : i < u.nodeCount.toNat) : (u.nodeAt i).leaf = true ↔ i < s.countedSymbols.length := by
  constructor
  · intro hl
    by_contra hn
    exact Bool.false_ne_true ((h.isJoin (Nat.le_of_not_lt hn) hi).internal.symm.trans hl)
  · intro hn
    rw [h.nodeAt_leaf hn]
    rfl

theorem Arena.isJoin_of_internal {k : Nat} (hk : k < u.nodeCount.toNat) (hl : (u.nodeAt k).leaf = false) :
    IsJoin u.node s.countedSymbols.length k (u.nodeAt k).left.toNat (u.nodeAt k).right.toNat :=
  h.isJoin (Nat.le_of_not_lt fun hn => Bool.false_ne_true (hl.symm.trans ((h.leaf_iff hk).2 hn))) hk

/-- The parents are the joins. -/
theorem Arena.isParent_iff {k x : Nat} :
    u.isParent k x ↔
      s.countedSymbols.length ≤ k ∧ k < u.nodeCount.toNat ∧ ((u.nodeAt k).left.toNat = x ∨ (u.nodeAt k).right.toNat = x) := by
  constructor
  · rintro ⟨hk, hl, hc⟩
    exact ⟨Nat.le_of_not_lt fun hn => Bool.false_ne_true (hl.symm.trans ((h.leaf_iff hk).2 hn)), hk, hc⟩
  · rintro ⟨hn, hk, hc⟩
    exact ⟨hk, (h.isJoin hn hk).internal, hc⟩

theorem Arena.exists_isParent_iff {x : Nat} :
    (∃ k, u.isParent k x) ↔ Joined u.node s.countedSymbols.length u.nodeCount.toNat x :=
  exists_congr fun _ => h.isParent_iff

/-- A parent's child is not joined at any node before the parent. -/
theorem Arena.not_isParent_of_lt {k m x : Nat} (hk : u.isParent k x) (hm : u.isParent m x) : ¬ k < m := by
  intro hlt
  obtain ⟨hnk, -, hck⟩ := h.isParent_iff.1 hk
  obtain ⟨hnm, hm, hcm⟩ := h.isParent_iff.1 hm
  have hjoined : Joined u.node s.countedSymbols.length m x := ⟨k, hnk, hlt, hck⟩
  have hj := h.isJoin hnm hm
  rcases hcm with rfl | rfl
  · exact hj.unjoined_left.2 hjoined
  · exact hj.unjoined_right.2 hjoined

theorem Arena.isParent_unique {k m x : Nat} (hk : u.isParent k x) (hm : u.isParent m x) : m = k :=
  Nat.le_antisymm (Nat.le_of_not_lt (h.not_isParent_of_lt hk hm)) (Nat.le_of_not_lt (h.not_isParent_of_lt hm hk))

theorem Arena.not_isParent_root (k : Nat) : ¬ u.isParent k u.treeIndex.toNat := fun hk =>
  ((h.mem_pq _).1 List.mem_cons_self).2 (h.exists_isParent_iff.1 ⟨k, hk⟩)

theorem Arena.exists_isParent {x : Nat} (hx : x < u.nodeCount.toNat) (hr : x ≠ u.treeIndex.toNat) : ∃ k, u.isParent k x := by
  rw [h.exists_isParent_iff]
  by_contra hn
  exact hr (List.mem_singleton.1 ((h.mem_pq x).2 ⟨hx, hn⟩))

/-- Each counted symbol stands at one leaf. -/
theorem Arena.exists_leaf_iff {b : Byte} : (∃ j < s.countedSymbols.length, (u.nodeAt j).sym = b) ↔ b ∈ s.countedSymbols := by
  rw [List.mem_iff_getElem]
  exact exists_congr fun j => ⟨fun ⟨hj, he⟩ => ⟨hj, h.sym_leaf hj ▸ he⟩, fun ⟨hj, he⟩ => ⟨hj, (h.sym_leaf hj).trans he⟩⟩

theorem Arena.leaf_unique {i j : Nat} (hi : i < s.countedSymbols.length) (hj : j < s.countedSymbols.length)
    (hs : (u.nodeAt i).sym = (u.nodeAt j).sym) : i = j := by
  rw [h.sym_leaf hi, h.sym_leaf hj] at hs
  exact s.nodup_countedSymbols.getElem_inj_iff.1 hs

end

end Sys2Proof.Machine

/-! ## The codes of BUILD

The paths of the tree, which `walk` writes as codes, are the root-to-leaf paths of the arena; their lengths add up as in every binary tree. -/

namespace Sys2Proof.Machine

/-! ### Paths in the arena -/

theorem State.leadsTo_of_leaf {u : State} {i j : Nat} (hl : (u.nodeAt i).leaf = true) (c : Bits) :
    u.leadsTo i c j ↔ c = [] ∧ i = j := by
  match c with
  | [] => exact (and_iff_right rfl).symm
  | false :: c => exact ⟨fun ⟨h0, _⟩ => absurd (h0.symm.trans hl) Bool.false_ne_true, fun ⟨hc, _⟩ => nomatch hc⟩
  | true :: c => exact ⟨fun ⟨h0, _⟩ => absurd (h0.symm.trans hl) Bool.false_ne_true, fun ⟨hc, _⟩ => nomatch hc⟩

namespace CodeTree

/-- The way down from a tree's root does not leave the nodes up to it. -/
theorem At.le_of_leadsTo {u : State} {t : CodeTree} {i j : Nat} {c : Bits} (h : t.At u.node i) (hc : u.leadsTo i c j) : j ≤ i := by
  induction t generalizing i c with
  | leaf a =>
    obtain ⟨-, rfl⟩ := (State.leadsTo_of_leaf h.1 c).1 hc
    exact le_rfl
  | join l r hl hr =>
    obtain ⟨-, hil, hir, h3, h4⟩ := h
    match c, hc with
    | [], hc => exact hc.ge
    | false :: c, ⟨_, hc⟩ => exact (hl h3 hc).trans hil.le
    | true :: c, ⟨_, hc⟩ => exact (hr h4 hc).trans hir.le

theorem notMem_codes_of_branch (t : CodeTree) {p c : Bits} {x y : Bool} (hxy : x ≠ y) (b : Byte) :
    (b, p ++ x :: c) ∉ t.codes (p ++ [y]) := fun hm => by
  have hp := (prefix_of_mem_codes hm).1
  rw [List.prefix_append_right_inj, List.cons_prefix_cons] at hp
  exact hxy hp.1.symm

theorem notMem_codes_self (t : CodeTree) (p : Bits) (x : Bool) (b : Byte) : (b, p) ∉ t.codes (p ++ [x]) := fun hm => by
  simpa using (prefix_of_mem_codes hm).1.length_le

/-- The paths of the tree are the ways down the arena to a leaf. -/
theorem At.mem_codes_iff {u : State} {t : CodeTree} {i : Nat} (h : t.At u.node i) {b : Byte} {p c : Bits} :
    (b, p ++ c) ∈ t.codes p ↔ ∃ j, u.leadsTo i c j ∧ (u.nodeAt j).leaf = true ∧ (u.nodeAt j).sym = b := by
  induction t generalizing i p c with
  | leaf a =>
    obtain ⟨hl, rfl⟩ := h
    simp only [codes, List.mem_singleton, Prod.mk.injEq, List.append_right_eq_self, State.leadsTo_of_leaf hl]
    constructor
    · rintro ⟨rfl, rfl⟩
      exact ⟨i, ⟨rfl, rfl⟩, hl, rfl⟩
    · rintro ⟨j, ⟨hc, rfl⟩, -, rfl⟩
      exact ⟨rfl, hc⟩
  | join l r hl hr =>
    obtain ⟨h0, -, -, h3, h4⟩ := h
    have hin {P : Prop} : (u.nodeAt i).leaf = false ∧ P ↔ P := and_iff_right h0
    rw [codes, List.mem_append]
    match c with
    | [] =>
      rw [List.append_nil, or_iff_left (r.notMem_codes_self p true b), iff_false_left (l.notMem_codes_self p false b)]
      rintro ⟨j, rfl, hleaf, -⟩
      exact absurd (h0.symm.trans hleaf) Bool.false_ne_true
    | false :: c =>
      rw [or_iff_left (r.notMem_codes_of_branch (by decide) b), List.append_cons p false c, hl h3]
      simp only [State.leadsTo, hin]
      rfl
    | true :: c =>
      rw [or_iff_right (l.notMem_codes_of_branch (by decide) b), List.append_cons p true c, hr h4]
      simp only [State.leadsTo, hin]
      rfl

/-- The paths fill the tree: with every path of length `k` counted as 2 ^ (m - k), they add up to that of the root (R117). -/
theorem sum_codes (t : CodeTree) {p : Bits} {m : Nat} (hm : p.length + t.depth ≤ m) :
    ((t.codes p).map fun c => 2 ^ (m - c.2.length)).sum = 2 ^ (m - p.length) := by
  induction t generalizing p with
  | leaf b => exact Nat.add_zero _
  | join l r hl hr =>
    have hd : (join l r).depth = max l.depth r.depth + 1 := rfl
    have hlen (x : Bool) : (p ++ [x]).length = p.length + 1 := List.length_append
    have hhalf : 2 ^ (m - p.length) = 2 ^ (m - (p.length + 1)) + 2 ^ (m - (p.length + 1)) := by
      rw [← Nat.two_mul, ← Nat.pow_succ']
      congr 1
      omega
    rw [codes, List.map_append, List.sum_append, hl (by rw [hlen]; omega), hr (by rw [hlen]; omega), hlen, hlen, hhalf]

/-- Below a join no path is empty. -/
theorem ne_nil_of_mem_codes {t : CodeTree} (ht : 2 ≤ t.syms.length) {b : Byte} {c : Bits} (hc : (b, c) ∈ t.codes []) : c ≠ [] := by
  cases t with
  | leaf a => exact absurd ht (Nat.not_succ_le_self 1)
  | join l r =>
    rintro rfl
    exact (List.mem_append.1 hc).elim (l.notMem_codes_self [] false b) (r.notMem_codes_self [] true b)

end CodeTree

theorem codeOfPath_of_ne_nil {c : Bits} (hc : c ≠ []) : codeOfPath c = c :=
  if_neg (mt List.isEmpty_iff.1 hc)

theorem one_le_length_codeOfPath (c : Bits) : 1 ≤ (codeOfPath c).length := by
  by_cases hc : c = []
  · rw [hc]; rfl
  · rw [codeOfPath_of_ne_nil hc]
    exact List.length_pos_of_ne_nil hc

theorem length_codeOfPath_le (c : Bits) : (codeOfPath c).length ≤ max 1 c.length := by
  by_cases hc : c = []
  · rw [hc]; rfl
  · rw [codeOfPath_of_ne_nil hc]
    exact le_max_right ..

section
variable {s u : State} {t : CodeTree} (h : Built s u t)
include h

theorem Built.lutAt_of_two_le (hn : 2 ≤ s.countedSymbols.length) {b : Byte} {c : Bits} (hc : (b, c) ∈ t.codes []) :
    u.lutAt b = LutEntry.ofCode c := by
  rw [h.lutAt_of_mem hc, codeOfPath_of_ne_nil (CodeTree.ne_nil_of_mem_codes (h.syms_perm.length_eq ▸ hn) hc)]

theorem Built.codesPrefixFree : CodesPrefixFree u := by
  intro a b hab ha hb hpre
  obtain ⟨c, hc, hac⟩ := h.exists_path ha
  obtain ⟨d, hd, hbd⟩ := h.exists_path hb
  by_cases h0 : c = []
  · exact hab (CodeTree.eq_of_prefix h.nodup_syms hc hd (h0 ▸ List.nil_prefix))
  · by_cases h1 : d = []
    · exact hab (CodeTree.eq_of_prefix h.nodup_syms hd hc (h1 ▸ List.nil_prefix)).symm
    · rw [hac, hbd] at hpre
      simp only [LutEntry.ofCode, codeOfPath_of_ne_nil h0, codeOfPath_of_ne_nil h1] at hpre
      exact hab (CodeTree.eq_of_prefix h.nodup_syms hc hd hpre)

/-- LEN holds a code's length, which is at most the number of edges on the longest path of a tree of n leaves (R117). -/
theorem Built.length_code {b : Byte} (hb : (u.lutAt b).valid = true) :
    (u.lutAt b).code.length = (u.lutAt b).len.toNat ∧ 1 ≤ (u.lutAt b).len.toNat ∧
      (u.lutAt b).len.toNat ≤ max 1 (s.countedSymbols.length - 1) := by
  obtain ⟨c, hc, hbc⟩ := h.exists_path hb
  have hdepth := t.depth_lt_length_syms
  have hc := (CodeTree.prefix_of_mem_codes hc).2
  have hn := s.length_countedSymbols_le
  have hpos := one_le_length_codeOfPath c
  have hle := length_codeOfPath_le c
  rw [h.syms_perm.length_eq] at hdepth
  rw [List.length_nil] at hc
  have hlen : (LutEntry.ofCode (codeOfPath c)).len.toNat = (codeOfPath c).length := Nat.mod_eq_of_lt (by omega)
  rw [hbc, hlen]
  exact ⟨rfl, hpos, by omega⟩

/-- CB_MAXLEN is the largest of the LENs, each of which is at least 1. -/
theorem Built.cbMaxlen_isMax :
    (u.cbMaxlen.toNat = 0 ∨ ∃ b ∈ s.countedSymbols, (u.lutAt b).len.toNat = u.cbMaxlen.toNat) ∧
      ∀ b ∈ s.countedSymbols, (u.lutAt b).len.toNat ≤ u.cbMaxlen.toNat := by
  obtain ⟨hmem, hle⟩ := List.max?_eq_some_iff.1 ((List.max?_cons').trans (congrArg some h.cbMaxlen.symm))
  rw [List.mem_cons, List.mem_map] at hmem
  exact ⟨hmem, fun b hb => hle _ (List.mem_cons_of_mem 0 (List.mem_map_of_mem hb))⟩

theorem Built.mem_countedSymbols_iff {b : Byte} : b ∈ s.countedSymbols ↔ (u.lutAt b).valid = true := by
  rw [State.mem_countedSymbols, h.valid_iff]

/-- For n ≥ 2 the codes are complete (R117). -/
theorem Built.sum_codes (hn : 2 ≤ s.countedSymbols.length) :
    (s.countedSymbols.map fun b => 2 ^ (256 - (u.lutAt b).len.toNat)).sum = 2 ^ 256 := by
  have hlen : ∀ c ∈ t.codes [], 2 ^ (256 - (u.lutAt c.1).len.toNat) = 2 ^ (256 - c.2.length) := by
    intro c hc
    have hvalid := h.mem_countedSymbols_iff.1 (h.syms_perm.mem_iff.1 (t.map_fst_codes [] ▸ List.mem_map_of_mem hc))
    rw [← (h.length_code hvalid).1, h.lutAt_of_two_le hn hc]
    rfl
  rw [← (h.syms_perm.map _).sum_eq, ← t.map_fst_codes [], List.map_map]
  calc _ = ((t.codes []).map fun c => 2 ^ (256 - c.2.length)).sum := congrArg List.sum (List.map_congr_left hlen)
    _ = 2 ^ 256 := t.sum_codes (by have := h.depth_lt; rw [List.length_nil]; omega)

/-- The code of a leaf's symbol is the one way from the root to the leaf (R115). -/
theorem Built.leadsTo_iff (ha : Arena s u.node [u.treeIndex.toNat] u.nodeCount.toNat) (hn : 2 ≤ s.countedSymbols.length) {j : Nat}
    (hj : j < s.countedSymbols.length) (c : Bits) : u.leadsTo u.treeIndex.toNat c j ↔ c = (u.lutAt (u.nodeAt j).sym).code := by
  have hpath (c : Bits) : ((u.nodeAt j).sym, c) ∈ t.codes [] ↔ u.leadsTo u.treeIndex.toNat c j := by
    refine (h.at_root.mem_codes_iff (p := [])).trans ⟨?_, fun hc => ⟨j, hc, (ha.leaf_iff (hj.trans_le ha.leaves_le)).2 hj, rfl⟩⟩
    rintro ⟨i, hc, hl, hs⟩
    have hi : i < u.nodeCount.toNat := ha.root_succ_eq ▸ Nat.lt_succ_of_le (h.at_root.le_of_leadsTo hc)
    rwa [← ha.leaf_unique ((ha.leaf_iff hi).1 hl) hj hs]
  obtain ⟨d, hd⟩ := CodeTree.exists_mem_codes (h.syms_perm.mem_iff.2 (ha.exists_leaf_iff.1 ⟨j, hj, rfl⟩)) []
  constructor
  · intro hc
    rw [h.lutAt_of_two_le hn ((hpath c).2 hc)]
    rfl
  · rintro rfl
    rw [h.lutAt_of_two_le hn hd]
    exact (hpath d).1 hd

end

/-- BUILD over no symbol clears the codebook. -/
theorem State.buildTree_of_uncounted {s : State} (h : s.countedSymbols = []) : s.buildTree = s.clearCodebook := by
  rw [s.countedSymbols_eq, List.map_eq_nil_iff] at h
  exact State.buildTree_of_nil h

theorem State.exists_built_of_counted {s : State} (h : s.countedSymbols ≠ []) : ∃ t, Built s s.buildTree t :=
  State.exists_built (State.presentSymbols_ne_nil h)

/-- Settles O33: the codes are the paths to different leaves of one tree. -/
theorem builtCodebookIsPrefixFree : Obligations.BuiltCodebookIsPrefixFree := by
  intro s t hm ht
  rw [eq_buildTree hm ht]
  rcases s.buildTree_cases with he | ⟨t, hb⟩
  · rw [he]
    exact fun a b _ ha => absurd ha Bool.false_ne_true
  · exact hb.codesPrefixFree

/-- Settles O34: the depth of a tree bounds its paths, and its paths fill it. -/
theorem builtCodeLengths : Obligations.BuiltCodeLengths := by
  rintro s t n hm rfl ht
  rw [eq_buildTree hm ht]
  by_cases h0 : s.countedSymbols = []
  · rw [State.buildTree_of_uncounted h0, h0]
    exact ⟨fun b hb => absurd hb Bool.false_ne_true, fun _ => rfl, fun hn => absurd rfl hn, fun hn => absurd hn (by decide)⟩
  · obtain ⟨t, hb⟩ := State.exists_built_of_counted h0
    have hn := s.length_countedSymbols_le
    obtain ⟨hattained, hbound⟩ := hb.cbMaxlen_isMax
    refine ⟨fun b hv => ?_, fun hn => absurd (List.length_eq_zero_iff.1 hn) h0, fun _ => ?_, hb.sum_codes⟩
    · obtain ⟨hcode, hpos, hle⟩ := hb.length_code hv
      exact ⟨hpos, hle, by omega, hcode, hbound b (hb.mem_countedSymbols_iff.2 hv)⟩
    · obtain ⟨b, hmem⟩ := List.exists_mem_of_ne_nil _ h0
      have hpos := (hb.length_code (hb.mem_countedSymbols_iff.1 hmem)).2.1
      have hle := hbound b hmem
      obtain ⟨c, hc, hmax⟩ := hattained.resolve_left (by omega)
      exact ⟨c, hb.mem_countedSymbols_iff.1 hc, BitVec.eq_of_toNat_eq hmax⟩

/-- Settles O32: the arena's joins give the shape, and the tree over it gives the paths that are the codes. -/
theorem buildCodesExactlyTheCountedSymbols : Obligations.BuildCodesExactlyTheCountedSymbols := by
  rintro s t n hm rfl hn ht
  rw [eq_buildTree hm ht]
  have h0 : s.countedSymbols ≠ [] := fun h0 => hn (h0 ▸ rfl)
  obtain ⟨hvalid, ha⟩ := State.buildTree_arena h0
  obtain ⟨t, hb⟩ := State.exists_built_of_counted h0
  have hlen := s.length_countedSymbols_le
  have hcount := hb.nodeCount
  refine ⟨fun b => hb.valid_iff, hb.cbCount, hcount, by omega, hvalid, ha.root_succ_eq, fun i => ha.leaf_iff, fun i hi hl => ?_,
    ha.not_isParent_root, fun i hi hr => ?_, fun b hv => ?_, fun h2 j hj c => ?_⟩
  · have hj := ha.isJoin_of_internal hi hl
    exact ⟨hj.unjoined_left.1, hj.unjoined_right.1, fun he => hj.left_lt_right.ne (congrArg (extractionKey _ ∘ BitVec.toNat) he)⟩
  · obtain ⟨k, hk⟩ := ha.exists_isParent hi hr
    exact ⟨k, hk, fun m => ha.isParent_unique hk⟩
  · obtain ⟨j, hj, hs⟩ := ha.exists_leaf_iff.2 (hb.mem_countedSymbols_iff.2 hv)
    exact ⟨j, hj, hs, fun m hm he => ha.leaf_unique hm hj (he.trans hs.symm)⟩
  · exact hb.leadsTo_iff ha h2 hj c

theorem Arena.freqAt_leaf {s : State} {node : Memory Node} {pq : List Nat} {next i : Nat} (h : Arena s node pq next)
    (hi : i < s.countedSymbols.length) : freqAt node i = (s.histAt s.countedSymbols[i]).toNat := by
  rw [freqAt, h.leaves i hi, s.freq_leafNode]

/-- Settles O35: each join adds two frequencies that stand in PQ, and those in PQ together are the sum of all bins. -/
theorem builtFrequenciesAreExactSums : Obligations.BuiltFrequenciesAreExactSums := by
  intro s t hm h0 ht
  rw [eq_buildTree hm ht]
  obtain ⟨-, ha⟩ := State.buildTree_arena h0
  refine ⟨fun i hi hl => ?_, fun i hi hl => (ha.isJoin_of_internal hi hl).freq, ha.total⟩
  have hi := (ha.leaf_iff hi).1 hl
  rw [ha.sym_leaf hi]
  exact ha.freqAt_leaf hi

/-- Settles O36: at every turn PQ holds the nodes that are not joined yet, and extraction takes the least and then the next least. -/
theorem buildJoinsTheTwoLeast : Obligations.BuildJoinsTheTwoLeast := by
  rintro s t n hm rfl hn ht
  rw [eq_buildTree hm ht]
  obtain ⟨-, ha⟩ := State.buildTree_arena fun h0 => hn (h0 ▸ rfl)
  refine ⟨fun i hi => by rw [ha.sym_leaf hi, List.getElem?_eq_getElem hi], fun k hnk hk free before hfree hbefore => ?_⟩
  have hj := ha.isJoin hnk hk
  have hfree (x : Nat) : free x ↔ Unjoined s.buildTree.node s.countedSymbols.length k x := by
    rw [hfree]
    simp [Unjoined, Joined, State.nodeAt]
  have hbefore (i j : Nat) : before i j ↔ extractionKey s.buildTree.node i < extractionKey s.buildTree.node j :=
    (hbefore i j).trans extractionKey_lt_iff.symm
  simp only [hfree, hbefore]
  exact ⟨hj.unjoined_left, hj.unjoined_right, hj.left_lt_right, hj.right_lt⟩

/-! ### One histogram, one tree -/

theorem leafNodes_congr {hist hist' : Memory (BitVec 64)} {syms : List Nat}
    (h : ∀ b ∈ syms, Memory.read 0 hist b = Memory.read 0 hist' b) : leafNodes hist syms = leafNodes hist' syms :=
  List.foldl_ext _ _ _ fun m p hp => by rw [leafNode, leafNode, h p.1 (List.fst_mem_of_mem_zipIdx hp)]

/-- Settles O31: the present symbols and the leaves are all that BUILD takes from HIST. -/
theorem buildDependsOnHistogramAlone : Obligations.BuildDependsOnHistogramAlone := by
  intro s u hs hu hbins
  refine ⟨_, _, exec_build hs, exec_build hu, ?_⟩
  have hread : ∀ b ∈ List.range 256, Memory.read 0 s.hist b = Memory.read 0 u.hist b := fun b hb => by
    simpa [State.histAt, Nat.mod_eq_of_lt (List.mem_range.1 hb)] using hbins (BitVec.ofNat 8 b)
  have hsyms : presentSymbols s.hist = presentSymbols u.hist := List.filter_congr fun b hb => by rw [hread b hb]
  have hleaves : leafNodes s.hist (presentSymbols u.hist) = leafNodes u.hist (presentSymbols u.hist) :=
    leafNodes_congr fun b hb => hread b (List.mem_of_mem_filter hb)
  simp only [State.buildTree, hsyms, hleaves]
  split <;> exact ⟨rfl, rfl, rfl, rfl, rfl, rfl, rfl⟩

/-! ### No symbol and one symbol -/

/-- The path to the only leaf is empty, so its code is "0" (R114). -/
theorem Built.lutAt_of_singleton {s u : State} {t : CodeTree} (h : Built s u t) {b : Byte} (hb : s.countedSymbols = [b]) :
    u.lutAt b = { valid := true, len := 1, code := [false] } := by
  have hmem : b ∈ t.syms := h.syms_perm.mem_iff.2 (hb ▸ List.mem_cons_self)
  have hdepth := t.depth_lt_length_syms
  rw [h.syms_perm.length_eq, hb, List.length_singleton] at hdepth
  obtain ⟨c, hc⟩ := CodeTree.exists_mem_codes hmem []
  have hlen : c.length ≤ 0 := (CodeTree.prefix_of_mem_codes hc).2.trans (by rw [List.length_nil]; omega)
  rw [h.lutAt_of_mem hc, List.length_eq_zero_iff.1 (Nat.le_zero.1 hlen)]
  rfl

/-- Settles O30: over no symbol BUILD clears, and the tree of one symbol is a leaf. -/
theorem buildOfNoneOrOneSymbol : Obligations.BuildOfNoneOrOneSymbol := by
  intro s
  refine ⟨commandRaises_of_noneOpcode (by decide), fun hm => ⟨_, exec_build hm, s.buildTree_frame, fun h => ?_, fun b h => ?_⟩⟩
  · rw [State.buildTree_of_uncounted h]
    exact ⟨rfl, rfl, rfl, rfl, rfl, rfl, rfl⟩
  · have h0 : s.countedSymbols ≠ [] := by simp [h]
    obtain ⟨hvalid, ha⟩ := State.buildTree_arena h0
    obtain ⟨t, hb⟩ := State.exists_built_of_counted h0
    have hlen : s.countedSymbols.length = 1 := congrArg List.length h
    have hlut := hb.lutAt_of_singleton h
    have hroot := ha.root_succ_eq
    have hnodes := hb.nodeCount
    have hcount := hb.cbCount
    have hmax := hb.cbMaxlen
    rw [h, List.map_singleton, hlut] at hmax
    rw [hlen] at hnodes hcount
    refine ⟨BitVec.eq_of_toNat_eq (Nat.succ.inj hnodes), hvalid, BitVec.eq_of_toNat_eq (?_ : _ = 0), BitVec.eq_of_toNat_eq hcount,
      BitVec.eq_of_toNat_eq hmax, ?_, hlut⟩
    · omega
    · rw [ha.nodeAt_leaf (hlen ▸ Nat.zero_lt_one), leafNode]
      simp [h, State.histAt]

/-! ### NODE.GET -/

theorem exec_nodeGet {s : State} (h : s.mode = .idle) (i : BitVec 9) :
    exec (.nodeGet i) s = .next (if i.toNat < s.nodeCount.toNat then
      { s with
        result0 := (s.nodeAt i.toNat).resultWord,
        result1 := (s.nodeAt i.toNat).freq.extractLsb' 0 32,
        result2 := (s.nodeAt i.toNat).freq.extractLsb' 32 32 }
      else { s with result0 := 0, result1 := 0, result2 := 0 }) :=
  congrArg _ (inMode_of_mode h _ _)

/-- RESULT0 as the sum of its fields (R119). -/
theorem Node.toNat_resultWord (n : Node) :
    n.resultWord.toNat = 2 ^ 31 + n.leaf.toNat * 2 ^ 30 + n.freq.toNat / 2 ^ 64 * 2 ^ 22 +
      (if n.leaf = true then n.sym.toNat else n.right.toNat * 2 ^ 9 + n.left.toNat) := by
  have hfreq : (n.freq.extractLsb' 64 8).toNat = n.freq.toNat / 2 ^ 64 := by
    rw [BitVec.extractLsb'_toNat, Nat.shiftRight_eq_div_pow]
    exact Nat.mod_eq_of_lt (by have := n.freq.isLt; omega)
  have hlow : (if n.leaf then (0 : BitVec 10) ++ n.sym else n.right ++ n.left).toNat =
      if n.leaf = true then n.sym.toNat else n.right.toNat * 2 ^ 9 + n.left.toNat := by
    split
    · rw [toNat_append_eq]; exact Nat.zero_add _
    · rw [toNat_append_eq]
  have hzero : (0 : BitVec 4).toNat = 0 := rfl
  rw [Node.resultWord, toNat_append_eq, toNat_append_eq, toNat_append_eq, toNat_append_eq, hfreq, hlow, hzero, BitVec.toNat_ofBool,
    Nat.zero_mul, Nat.zero_add, Nat.add_assoc, Nat.add_assoc]
  rfl

/-- Settles O37: the result words are the node's fields side by side. -/
theorem nodeGetReadsOneNode : Obligations.NodeGetReadsOneNode := by
  intro s i
  refine ⟨?_, fun hm => ⟨_, exec_nodeGet hm i, ?_, fun hi => ?_, fun hi => ?_⟩⟩
  · refine commandRaises_of_reserved rfl nofun (congrArg BitVec.toNat (opcodeOf_cmdIdxWord _ _)) id fun v hv hz => ?_
    obtain ⟨-, -, -, hidx, -⟩ := rejectedEntriesRaiseUsageErrors s v
    exact hidx hv hz
  · split <;> rfl
  · rw [if_pos hi]
    exact ⟨Node.toNat_resultWord _, by simp, by simp [Nat.shiftRight_eq_div_pow]⟩
  · rw [if_neg (Nat.not_lt.2 hi)]
    exact ⟨rfl, rfl, rfl⟩

end Sys2Proof.Machine

/-! ## The codebook's commands

CB.CLEAR, CB.GET, CB.EMIT and CB.LOAD of 44_codebook.md, with the plain numbers behind their words and bytes. -/

namespace Sys2Proof.Machine

/-! ### Numbers from bits and bytes -/

/-- Shifting in the low bits of a number, in plain numbers. -/
theorem toNat_shiftLeft_or {w k : Nat} (v : BitVec w) {x : BitVec w} (hx : x.toNat < 2 ^ k) :
    ((v <<< k) ||| x).toNat = (v.toNat * 2 ^ k + x.toNat) % 2 ^ w := by
  rw [BitVec.toNat_or, BitVec.toNat_shiftLeft, ← Nat.mod_eq_of_lt x.isLt, ← Nat.or_mod_two_pow, Nat.mod_eq_of_lt x.isLt,
    ← Nat.shiftLeft_add_eq_or_of_lt hx, Nat.shiftLeft_eq]

theorem bitsNat_append_singleton (c : Bits) (b : Bool) : bitsNat (c ++ [b]) = 2 * bitsNat c + b.toNat :=
  List.foldl_concat ..

theorem bitsValue_append_singleton (c : Bits) (b : Bool) :
    bitsValue (c ++ [b]) = (bitsValue c <<< 1) ||| (if b then 1 else 0) :=
  List.foldl_concat ..

theorem bitsNat_lt (c : Bits) : bitsNat c < 2 ^ c.length := by
  induction c using List.reverseRecOn with
  | nil => exact Nat.one_pos
  | append_singleton c b ih =>
    have hb := b.toNat_lt
    rw [bitsNat_append_singleton, List.length_append, List.length_singleton, Nat.pow_succ]
    omega

/-- The number of a code fits the 256 bits of CODEW7:...:CODEW0 (44_codebook.md R123). -/
theorem toNat_bitsValue {c : Bits} (h : c.length ≤ 256) : (bitsValue c).toNat = bitsNat c := by
  induction c using List.reverseRecOn with
  | nil => rfl
  | append_singleton c b ih =>
    have hbit : (if b then 1 else 0 : BitVec 256).toNat = b.toNat := by cases b <;> rfl
    have hlt := (bitsNat_lt (c ++ [b])).trans_le (Nat.pow_le_pow_right Nat.two_pos h)
    rw [List.length_append, List.length_singleton] at h
    rw [bitsNat_append_singleton, Nat.mul_comm] at hlt ⊢
    rw [bitsValue_append_singleton, toNat_shiftLeft_or _ (hbit ▸ b.toNat_lt), hbit, ih (by omega)]
    exact Nat.mod_eq_of_lt hlt

/-- ACC with one more byte, in plain numbers (44_codebook.md R126). -/
theorem State.toNat_accWith (s : State) (b : Byte) : (s.accWith b).toNat = (s.acc.toNat * 2 ^ 8 + b.toNat) % 2 ^ 32 := by
  have hb : (b.setWidth 32).toNat = b.toNat := BitVec.toNat_setWidth_of_le (by decide)
  rw [State.accWith, toNat_shiftLeft_or _ (hb ▸ b.isLt), hb]

/-- One byte of a number, in plain numbers. -/
theorem extractLsb'_eq_ofNat {w : Nat} (v : BitVec w) (k : Nat) : v.extractLsb' k 8 = BitVec.ofNat 8 (v.toNat / 2 ^ k) := by
  rw [← Nat.shiftRight_eq_div_pow]
  rfl

/-! ### The wire form -/

/-- The bytes of one valid entry, in plain numbers (44_codebook.md R120). -/
def State.wireEntry (s : State) (b : Byte) : List Byte :=
  [b, BitVec.ofNat 8 ((s.lutAt b).len.toNat / 2 ^ 8), BitVec.ofNat 8 (s.lutAt b).len.toNat] ++ (s.lutAt b).code.map asciiDigit

/-- The bytes of a count, most significant first (44_codebook.md R120). -/
def wireCount (n : Nat) : List Byte :=
  [BitVec.ofNat 8 (n / 2 ^ 24), BitVec.ofNat 8 (n / 2 ^ 16), BitVec.ofNat 8 (n / 2 ^ 8), BitVec.ofNat 8 n]

theorem State.wireForm_eq (s : State) : s.wireForm = wireCount s.cbCount.toNat ++ s.validSymbols.flatMap s.wireEntry := rfl

theorem LutEntry.sound.of_valid {e : LutEntry} (h : e.sound) (hv : e.valid = true) :
    1 ≤ e.len.toNat ∧ e.len.toNat ≤ 256 ∧ e.code.length = e.len.toNat := by
  rcases h with ⟨-, h⟩ | rfl
  · exact h
  · exact absurd hv Bool.false_ne_true

theorem LutEntry.sound.eq_absent {e : LutEntry} (h : e.sound) (hv : e.valid = false) : e = LutEntry.absent :=
  h.resolve_left fun ⟨ht, _⟩ => Bool.false_ne_true (hv.symm.trans ht)

theorem LutEntry.sound.take_code {e : LutEntry} (h : e.sound) : e.code.take e.len.toNat = e.code := by
  rcases h with ⟨-, -, -, hl⟩ | rfl
  · exact List.take_of_length_le hl.le
  · rfl

theorem u32be_cbCount (n : BitVec 9) : u32be (n.setWidth 32) = wireCount n.toNat := by
  have hn : (n.setWidth 32).toNat = n.toNat := BitVec.toNat_setWidth_of_le (by decide)
  simp only [u32be, wireCount, extractLsb'_eq_ofNat, hn, Nat.pow_zero, Nat.div_one]

theorem State.entryBytes_lutAt {s : State} (h : LutSound s) (b : Byte) : entryBytes b.toNat (s.lutAt b) = s.wireEntry b := by
  have hn : ((s.lutAt b).len.setWidth 16).toNat = (s.lutAt b).len.toNat := BitVec.toNat_setWidth_of_le (by decide)
  simp only [entryBytes, u16be, extractLsb'_eq_ofNat, hn, Nat.pow_zero, Nat.div_one, (h b).take_code, BitVec.ofNat_toNat,
    BitVec.setWidth_eq]
  rfl

theorem flatMap_filter {α β : Type} (p : α → Bool) (f : α → List β) (l : List α) :
    (l.filter p).flatMap f = l.flatMap fun a => if p a then f a else [] := by
  induction l with
  | nil => rfl
  | cons a l ih => by_cases ha : p a = true <;> simp [ha, ih]

/-- The serializer writes the wire form (44_codebook.md R124). -/
theorem State.codebookBytes_eq_wireForm {s : State} (h : LutSound s) : s.codebookBytes = s.wireForm := by
  rw [State.codebookBytes, State.wireForm_eq, u32be_cbCount, State.validSymbols, flatMap_filter, List.flatMap_map]
  refine congrArg _ (List.flatMap_congr fun b hb => ?_)
  have hb : (BitVec.ofNat 8 b).toNat = b := Nat.mod_eq_of_lt (List.mem_range.1 hb)
  rw [← State.entryBytes_lutAt h, State.lutAt, hb]

/-! ### Commands -/

theorem exec_cbClear {s : State} (h : s.mode = .idle) : exec .cbClear s = .next s.clearCodebook := congrArg _ (inMode_of_mode h _ _)

theorem exec_cbLoad {s : State} (h : s.mode = .idle) :
    exec .cbLoad s = .next { s.clearCodebook.clearParser with mode := .cbLoad } :=
  congrArg _ (inMode_of_mode h _ _)

theorem exec_cbEmit {s : State} (h : s.mode = .idle) : exec .cbEmit s = .next (s.pushAll s.codebookBytes) :=
  congrArg _ (inMode_of_mode h _ _)

theorem exec_cbGet {s : State} (h : s.mode = .idle) (b : Byte) :
    exec (.cbGet b) s = .next (if (s.lutAt b).valid then
      { s with
        result0 := (s.lutAt b).resultWord, result1 := 0, result2 := 0,
        codew := bitsValue ((s.lutAt b).code.take (s.lutAt b).len.toNat) }
      else { s with result0 := 0, result1 := 0, result2 := 0, codew := 0 }) :=
  congrArg _ (inMode_of_mode h _ _)

/-- RESULT0 as the sum of its fields (44_codebook.md R123). -/
theorem LutEntry.toNat_resultWord (e : LutEntry) : e.resultWord.toNat = 2 ^ 31 + e.len.toNat := by
  rw [LutEntry.resultWord, toNat_append_eq, Laws.RowMatch.zero_append_toNat]
  rfl

/-- Settles O38: in IDLE each command is one record update. -/
theorem codebookClearAndLoadStart : Obligations.CodebookClearAndLoadStart := by
  intro s
  refine ⟨commandRaises_of_noneOpcode (by decide), commandRaises_of_noneOpcode (by decide), fun hm => ?_⟩
  exact ⟨exec_cbClear hm, exec_cbLoad hm⟩

/-- Settles O39: a sound entry's code has LEN bits, which fit CODEW7:...:CODEW0. -/
theorem cbGetReadsOneCode : Obligations.CbGetReadsOneCode := by
  intro s b hs
  refine ⟨commandRaises_of_symOpcode (by decide), fun hm => ⟨_, exec_cbGet hm b, ?_, fun hv => ?_, fun hv => ?_⟩⟩
  · split <;> rfl
  · obtain ⟨-, hle, hlen⟩ := hs.of_valid hv
    rw [if_pos hv, hs.take_code]
    exact ⟨LutEntry.toNat_resultWord _, toNat_bitsValue (hlen ▸ hle)⟩
  · rw [if_neg (ne_true_of_eq_false hv)]
    exact ⟨rfl, rfl⟩

/-- Settles O40: the serializer writes the wire form, and the push is one record update. -/
theorem cbEmitPushesTheWireForm : Obligations.CbEmitPushesTheWireForm := by
  intro s hs
  refine ⟨commandRaises_of_noneOpcode (by decide), fun hm => ?_⟩
  rw [exec_cbEmit hm, State.codebookBytes_eq_wireForm hs]
  rfl

end Sys2Proof.Machine

/-! ## DATA in CB_LOAD

One lemma for each outcome that 44_codebook.md R126 lists. -/

namespace Sys2Proof.Machine

theorem exec_data_of_cbLoad {s : State} (h : s.mode = .cbLoad) (b : Byte) : exec (.data b) s = .next (s.loadByte b) := by
  rw [exec, execData, h]

/-- An error at a byte of the section records the byte (R126). -/
theorem State.raise_data (s : State) (c : Cause) (b : Byte) :
    s.raise c (Instr.data b).value = errorState s c.errWord (b.setWidth 32) (s.seq - 1) := by
  rw [State.raise_eq, State.errorEntry_eq_errorState, value_data]

/-! ### The count -/

section
variable {s : State} (hm : s.mode = .cbLoad) (hp : s.phase = .count)
include hm hp

theorem exec_data_of_count (b : Byte) : exec (.data b) s = .next (s.loadCount b) := by
  rw [exec_data_of_cbLoad hm, State.loadByte, hp]

theorem exec_data_count_collect (hi : s.idx.toNat < 3) (b : Byte) :
    exec (.data b) s = .next { s with acc := s.accWith b, idx := s.idx + 1 } := by
  rw [exec_data_of_count hm hp, State.loadCount, if_neg (by omega)]

theorem exec_data_count_tooLarge (hi : s.idx = 3) {b : Byte} (h : 256 < (s.accWith b).toNat) :
    exec (.data b) s = .next (errorState s 0x130 (b.setWidth 32) (s.seq - 1)) := by
  rw [exec_data_of_count hm hp, State.loadCount, if_pos (by rw [hi]; rfl), if_pos h, State.raise_data]
  rfl

theorem exec_data_count_zero (hi : s.idx = 3) {b : Byte} (h : (s.accWith b).toNat = 0) :
    exec (.data b) s = .next s.loadFinish := by
  have h0 : s.accWith b = 0 := BitVec.eq_of_toNat_eq h
  rw [exec_data_of_count hm hp, State.loadCount, if_pos (by rw [hi]; rfl), if_neg (by omega), if_pos h0]

theorem exec_data_count_last (hi : s.idx = 3) {b : Byte} (h0 : 0 < (s.accWith b).toNat) (h : (s.accWith b).toNat ≤ 256) :
    exec (.data b) s = .next { s with cntTotal := s.accWith b, acc := 0, idx := 0, phase := .sym } := by
  have hne : s.accWith b ≠ 0 := fun he => h0.ne' (congrArg BitVec.toNat he)
  rw [exec_data_of_count hm hp, State.loadCount, if_pos (by rw [hi]; rfl), if_neg (by omega), if_neg hne]

end

/-! ### The symbol -/

section
variable {s : State} (hm : s.mode = .cbLoad) (hp : s.phase = .sym)
include hm hp

theorem exec_data_of_sym (b : Byte) : exec (.data b) s = .next (s.loadSym b) := by
  rw [exec_data_of_cbLoad hm, State.loadByte, hp]

theorem exec_data_sym_dup {b : Byte} (hv : (s.lutAt b).valid = true) :
    exec (.data b) s = .next (errorState s 0x131 (b.setWidth 32) (s.seq - 1)) := by
  rw [exec_data_of_sym hm hp, State.loadSym, if_pos hv, State.raise_data]
  rfl

theorem exec_data_sym_new {b : Byte} (hv : (s.lutAt b).valid = false) :
    exec (.data b) s = .next { s with csym := b, phase := .len } := by
  rw [exec_data_of_sym hm hp, State.loadSym, if_neg (ne_true_of_eq_false hv)]

end

/-! ### The length -/

/-- The sixteen bits of ACC that give the length, in plain numbers. -/
theorem State.toNat_lenField_accWith (s : State) (b : Byte) :
    ((s.accWith b).extractLsb' 0 16).toNat = (s.acc.toNat * 2 ^ 8 + b.toNat) % 2 ^ 16 := by
  rw [BitVec.extractLsb'_toNat, Nat.shiftRight_zero, s.toNat_accWith]
  omega

section
variable {s : State} (hm : s.mode = .cbLoad) (hp : s.phase = .len)
include hm hp

theorem exec_data_of_len (b : Byte) : exec (.data b) s = .next (s.loadLen b) := by
  rw [exec_data_of_cbLoad hm, State.loadByte, hp]

theorem exec_data_len_first (hi : s.idx = 0) (b : Byte) :
    exec (.data b) s = .next { s with acc := s.accWith b, idx := 1 } := by
  rw [exec_data_of_len hm hp, State.loadLen, hi]
  rfl

theorem exec_data_len_outOfRange (hi : s.idx = 1) {b : Byte}
    (h : (s.acc.toNat * 2 ^ 8 + b.toNat) % 2 ^ 16 = 0 ∨ 256 < (s.acc.toNat * 2 ^ 8 + b.toNat) % 2 ^ 16) :
    exec (.data b) s = .next (errorState s 0x132 (b.setWidth 32) (s.seq - 1)) := by
  rw [← s.toNat_lenField_accWith] at h
  rw [exec_data_of_len hm hp, State.loadLen, if_pos (by rw [hi]; rfl), if_pos h, State.raise_data]
  rfl

theorem exec_data_len_last (hi : s.idx = 1) {b : Byte} (h0 : 0 < (s.acc.toNat * 2 ^ 8 + b.toNat) % 2 ^ 16)
    (h : (s.acc.toNat * 2 ^ 8 + b.toNat) % 2 ^ 16 ≤ 256) :
    exec (.data b) s = .next { s with
      clen := BitVec.ofNat 9 ((s.acc.toNat * 2 ^ 8 + b.toNat) % 2 ^ 16), ccode := [], acc := 0, idx := 0, phase := .digits } := by
  have hfield := s.toNat_lenField_accWith b
  have hlen : (s.accWith b).extractLsb' 0 9 = BitVec.ofNat 9 ((s.acc.toNat * 2 ^ 8 + b.toNat) % 2 ^ 16) :=
    BitVec.eq_of_toNat_eq (by rw [toNat_lenField (hfield ▸ h), hfield, BitVec.toNat_ofNat]; omega)
  rw [exec_data_of_len hm hp, State.loadLen, if_pos (by rw [hi]; rfl), if_neg (by omega), hlen]

end

/-- Settles O41: ACC collects the bytes of a number, and the last of them meets the range checks. -/
theorem loadedCountAndLength : Obligations.LoadedCountAndLength := by
  intro s b hm
  have hacc := s.toNat_accWith b
  refine ⟨fun hp hi => ⟨_, exec_data_count_collect hm hp hi b, rfl, hacc, ?_⟩, fun hp hi h => ?_, fun hp hi h => ?_,
    fun hp hi h0 h => ?_, fun hp hi => ⟨_, exec_data_len_first hm hp hi b, rfl, hacc⟩, fun hp hi => exec_data_len_outOfRange hm hp hi,
    fun hp hi => exec_data_len_last hm hp hi⟩
  · exact BitVec.toNat_add_of_lt (by change _ + 1 < _; omega)
  · exact exec_data_count_tooLarge hm hp hi (hacc ▸ h)
  · exact exec_data_count_zero hm hp hi (hacc.trans h)
  · have htotal : s.accWith b = BitVec.ofNat 32 (s.acc.toNat * 2 ^ 8 + b.toNat) :=
      BitVec.eq_of_toNat_eq (by rw [hacc, BitVec.toNat_ofNat])
    rw [exec_data_count_last hm hp hi (hacc ▸ h0) (hacc ▸ h), htotal]

/-! ### The digits -/

/-- The lookup finds nothing exactly when the key is the code of no valid entry (46_decoder.md R135).
It sees the LUT only, so HIST and NODE count as empty. -/
theorem matchKey_eq_none_iff {s : State} (h : Memory.wf LutEntry.absent 256 s.lut = true) {key : Bits} :
    matchKey s.lut key = none ↔
      ∀ b, (s.lutAt b).valid = true → (s.lutAt b).len.toNat = key.length → (s.lutAt b).code ≠ key := by
  refine ⟨matchKey_eq_none (s := { s with hist := [], node := [] }) ⟨rfl, rfl, h⟩, fun hnew => ?_⟩
  refine Option.map_eq_none_iff.2 (List.find?_eq_none.2 ?_)
  rintro ⟨k, e⟩ hmem hfound
  obtain ⟨hread, hne⟩ := (Memory.mem_iff_read h k e).1 hmem
  have hk : (BitVec.ofNat 8 k).toNat = k :=
    Nat.mod_eq_of_lt (Nat.lt_of_not_le fun hk => hne (hread ▸ Memory.read_of_size_le h hk))
  have hlut : s.lutAt (BitVec.ofNat 8 k) = e := by rw [State.lutAt, hk, hread]
  simp only [Bool.and_eq_true, beq_iff_eq] at hfound
  obtain ⟨⟨hv, hl⟩, hc⟩ := hfound
  exact hnew (BitVec.ofNat 8 k) (hlut ▸ hv) (hlut ▸ hl) (hlut ▸ hc)

/-- The state after the last digit of a new code: the entry is committed, and the CNT_TOTAL-th ends the load (R126). -/
def State.entered (s : State) (code : Bits) : State :=
  if (s.doneCount + 1).toNat = s.cntTotal.toNat then (s.committed code).loadFinish
  else { s.committed code with phase := .sym, ccode := [] }

theorem digitBit_of_digit {b : Byte} (h : b = 0x30 ∨ b = 0x31) : digitBit b = some (decide (b = 0x31)) := by
  rcases h with rfl | rfl <;> rfl

section
variable {s : State} (hm : s.mode = .cbLoad) (hp : s.phase = .digits)
include hm hp

theorem exec_data_of_digits (b : Byte) : exec (.data b) s = .next (s.loadDigit b) := by
  rw [exec_data_of_cbLoad hm, State.loadByte, hp]

theorem exec_data_badDigit {b : Byte} (h0 : b ≠ 0x30) (h1 : b ≠ 0x31) :
    exec (.data b) s = .next (errorState s 0x133 (b.setWidth 32) (s.seq - 1)) := by
  have hnone : digitBit b = none := by rw [digitBit, if_neg h0, if_neg h1]
  rw [exec_data_of_digits hm hp, State.loadDigit, hnone]
  exact congrArg _ (s.raise_data .cbBadDigit b)

theorem exec_data_digit {b : Byte} {d : Bool} (hb : digitBit b = some d) (hl : s.ccode.length + 1 ≠ s.clen.toNat) :
    exec (.data b) s = .next { s with ccode := s.ccode ++ [d] } := by
  rw [exec_data_of_digits hm hp, State.loadDigit, hb]
  exact congrArg _ (if_neg (by rwa [List.length_append]))

theorem exec_data_lastDigit {b : Byte} {d : Bool} (hb : digitBit b = some d) (hl : s.ccode.length + 1 = s.clen.toNat) :
    exec (.data b) s = .next (s.loadCommit b (s.ccode ++ [d])) := by
  rw [exec_data_of_digits hm hp, State.loadDigit, hb]
  exact congrArg _ (if_pos (by rwa [List.length_append]))

theorem exec_data_dupCode {b : Byte} {d : Bool} (hb : digitBit b = some d) (hl : s.ccode.length + 1 = s.clen.toNat)
    (h : matchKey s.lut (s.ccode ++ [d]) ≠ none) :
    exec (.data b) s = .next (errorState s 0x134 (b.setWidth 32) (s.seq - 1)) := by
  rw [exec_data_lastDigit hm hp hb hl, State.loadCommit, if_pos (Option.isSome_iff_ne_none.2 h), State.raise_data]
  rfl

theorem exec_data_newCode {b : Byte} {d : Bool} (hb : digitBit b = some d) (hl : s.ccode.length + 1 = s.clen.toNat)
    (h : matchKey s.lut (s.ccode ++ [d]) = none) : exec (.data b) s = .next (s.entered (s.ccode ++ [d])) := by
  rw [exec_data_lastDigit hm hp hb hl, State.loadCommit, if_neg (by simp [h])]
  rfl

end

theorem State.entered_of_last {s : State} (h : (s.doneCount + 1).toNat = s.cntTotal.toNat) {code : Bits} :
    s.entered code = (s.committed code).loadFinish := if_pos h

theorem State.entered_of_not_last {s : State} (h : (s.doneCount + 1).toNat ≠ s.cntTotal.toNat) {code : Bits} :
    s.entered code = { s.committed code with phase := .sym, ccode := [] } := if_neg h

/-- The codebook after the last digit of an entry, whether or not it ends the load; the tree is left alone. -/
theorem State.entered_book (s : State) (code : Bits) :
    (s.entered code).lut = (s.committed code).lut ∧ (s.entered code).cbCount = s.cbCount + 1 ∧
      (s.entered code).cbMaxlen.toNat = max s.cbMaxlen.toNat s.clen.toNat ∧ (s.entered code).treeValid = s.treeValid ∧
      (s.entered code).node = s.node := by
  have hmax : (s.committed code).cbMaxlen.toNat = max s.cbMaxlen.toNat s.clen.toNat := by
    rw [State.committed]
    simp only
    split <;> omega
  unfold State.entered
  split <;> exact ⟨rfl, rfl, hmax, rfl, rfl⟩

/-- The entry of the parser is in the LUT; HIST and NODE, which no read of the LUT sees, count as empty. -/
theorem State.lutAt_entered {s : State} (h : Memory.wf LutEntry.absent 256 s.lut = true) (code : Bits) (b : Byte) :
    (s.entered code).lutAt b = if b = s.csym then { valid := true, len := s.clen, code := code } else s.lutAt b := by
  obtain ⟨hlut, -⟩ := s.entered_book code
  rw [State.lutAt, hlut]
  exact State.lutAt_committed (s := { s with hist := [], node := [] }) ⟨rfl, rfl, h⟩ code b

/-- Settles O42: the lookup before the commit finds exactly the valid entries with this LEN and CODE. -/
theorem loadedSymbolAndDigits : Obligations.LoadedSymbolAndDigits := by
  intro s b hm
  refine ⟨fun hp => exec_data_sym_dup hm hp, fun hp => exec_data_sym_new hm hp, fun hp => exec_data_badDigit hm hp,
    fun hp hb hl => exec_data_digit hm hp (digitBit_of_digit hb) hl, fun hp hb hl hc h => ?_, fun hp hb hl hc h => ?_⟩
  · obtain ⟨c, hv, hlen, hcode⟩ := h
    refine exec_data_dupCode hm hp (digitBit_of_digit hb) hl fun hnone => ?_
    exact (matchKey_eq_none_iff hc.2.2).1 hnone c hv (by rw [hlen, List.length_append]; exact hl.symm) hcode
  · have hnew : matchKey s.lut (s.ccode ++ [decide (b = 0x31)]) = none := by
      refine (matchKey_eq_none_iff hc.2.2).2 fun c hv hlen hcode => h ⟨c, hv, BitVec.eq_of_toNat_eq ?_, hcode⟩
      rw [hlen, List.length_append]
      exact hl
    obtain ⟨-, hcount, hmax, -⟩ := s.entered_book (s.ccode ++ [decide (b = 0x31)])
    refine ⟨_, exec_data_newCode hm hp (digitBit_of_digit hb) hl hnew, ?_, fun c hne => ?_, hcount, hmax, fun hd => ?_, fun hd => ?_⟩
    · rw [State.lutAt_entered hc.2.2, if_pos rfl]
    · rw [State.lutAt_entered hc.2.2, if_neg hne]
    · rw [State.entered_of_last hd]
      rfl
    · rw [State.entered_of_not_last hd]
      rfl

end Sys2Proof.Machine

/-! ## Emit, then load (44_codebook.md R127)

The loader reads the wire form back part by part: the count, then entry by entry, each of which adds one entry of the emitted codebook to
the one being loaded. -/

namespace Sys2Proof.Machine

/-! ### Numbers of several bytes -/

/-- ACC holds the bytes of `n`, and IDX counts them (R126). -/
def State.collecting (s : State) (n : Nat) (i : BitVec 2) : State := { s with acc := BitVec.ofNat 32 n, idx := i }

theorem State.collecting_zero {s : State} (ha : s.acc = 0) (hi : s.idx = 0) : s.collecting 0 0 = s := by
  change { s with acc := 0, idx := 0 } = s
  rw [← ha, ← hi]

/-- A byte after the bytes above it gives the number. -/
theorem State.accWith_collecting (s : State) (n : Nat) (i : BitVec 2) :
    (s.collecting (n / 2 ^ 8) i).accWith (BitVec.ofNat 8 n) = BitVec.ofNat 32 n := by
  refine BitVec.eq_of_toNat_eq ?_
  rw [State.toNat_accWith]
  simp only [State.collecting, BitVec.toNat_ofNat]
  omega

/-- The state in which the count of a section has ended with `n`: the load ends at once, or its first symbol comes next (R126). -/
def State.counted (s : State) (n : Nat) : State :=
  if n = 0 then s.loadFinish else { s with cntTotal := BitVec.ofNat 32 n, acc := 0, idx := 0, phase := .sym }

section
variable {s : State} (hm : s.mode = .cbLoad) (hp : s.phase = .count)
include hm hp

theorem exec_data_collecting {i : BitVec 2} (hi : i.toNat < 3) (n : Nat) :
    exec (.data (BitVec.ofNat 8 n)) (s.collecting (n / 2 ^ 8) i) = .next (s.collecting n (i + 1)) := by
  rw [exec_data_count_collect (s := s.collecting (n / 2 ^ 8) i) hm hp hi, State.accWith_collecting]
  rfl

theorem exec_data_counted {n : Nat} (hn : n ≤ 256) :
    exec (.data (BitVec.ofNat 8 n)) (s.collecting (n / 2 ^ 8) 3) = .next (s.counted n) := by
  have hacc := s.accWith_collecting n 3
  have hval : (BitVec.ofNat 32 n).toNat = n := Nat.mod_eq_of_lt (by omega)
  rw [State.counted]
  split
  · next h0 => exact exec_data_count_zero (s := s.collecting (n / 2 ^ 8) 3) hm hp rfl (by rw [hacc, hval, h0])
  · next h0 =>
    rw [exec_data_count_last (s := s.collecting (n / 2 ^ 8) 3) hm hp rfl (by rw [hacc, hval]; omega) (by rwa [hacc, hval]), hacc]
    rfl

/-- The four bytes of a count. -/
theorem runInstrs_wireCount (ha : s.acc = 0) (hi : s.idx = 0) {n : Nat} (hn : n ≤ 256) :
    runInstrs ((wireCount n).map .data) s = .next (s.counted n) := by
  have hstart : s = s.collecting (n / 2 ^ 24 / 2 ^ 8) 0 := by
    rw [show n / 2 ^ 24 / 2 ^ 8 = 0 by omega, State.collecting_zero ha hi]
  have h16 : n / 2 ^ 24 = n / 2 ^ 16 / 2 ^ 8 := by omega
  have h8 : n / 2 ^ 16 = n / 2 ^ 8 / 2 ^ 8 := by omega
  calc runInstrs ((wireCount n).map .data) s
    _ = runInstrs ((wireCount n).map .data) (s.collecting (n / 2 ^ 24 / 2 ^ 8) 0) := by rw [← hstart]
    _ = runInstrs (((wireCount n).drop 1).map .data) (s.collecting (n / 2 ^ 24) 1) :=
      runInstrs_cons (exec_data_collecting hm hp (by decide) _) _
    _ = runInstrs (((wireCount n).drop 2).map .data) (s.collecting (n / 2 ^ 16) 2) := by
      rw [h16]; exact runInstrs_cons (exec_data_collecting hm hp (by decide) _) _
    _ = runInstrs (((wireCount n).drop 3).map .data) (s.collecting (n / 2 ^ 8) 3) := by
      rw [h8]; exact runInstrs_cons (exec_data_collecting hm hp (by decide) _) _
    _ = .next (s.counted n) := runInstrs_cons (exec_data_counted hm hp hn) _

end

/-! ### One entry -/

/-- The parser has the symbol `b` and the length `n` of an entry and awaits its digits (R126). -/
def State.atDigits (s : State) (b : Byte) (n : BitVec 9) : State :=
  { s with csym := b, clen := n, ccode := [], acc := 0, idx := 0, phase := .digits }

/-- The two bytes of a length. -/
theorem runInstrs_wireLen {s : State} (hm : s.mode = .cbLoad) (hp : s.phase = .len) (ha : s.acc = 0) (hi : s.idx = 0) {n : BitVec 9}
    (h1 : 1 ≤ n.toNat) (hn : n.toNat ≤ 256) :
    runInstrs ([BitVec.ofNat 8 (n.toNat / 2 ^ 8), BitVec.ofNat 8 n.toNat].map .data) s = .next (s.atDigits s.csym n) := by
  have hstart : s = s.collecting (n.toNat / 2 ^ 8 / 2 ^ 8) 0 := by
    rw [show n.toNat / 2 ^ 8 / 2 ^ 8 = 0 by omega, State.collecting_zero ha hi]
  have hfirst : exec (.data (BitVec.ofNat 8 (n.toNat / 2 ^ 8))) s = .next (s.collecting (n.toNat / 2 ^ 8) 1) := by
    rw [exec_data_len_first hm hp hi, hstart, State.accWith_collecting]
    rfl
  have hvalue : (s.collecting (n.toNat / 2 ^ 8) 1).acc.toNat * 2 ^ 8 + (BitVec.ofNat 8 n.toNat).toNat = n.toNat := by
    simp only [State.collecting, BitVec.toNat_ofNat]
    omega
  have hfit : n.toNat % 2 ^ 16 = n.toNat := Nat.mod_eq_of_lt (by omega)
  have hlast := exec_data_len_last (s := s.collecting (n.toNat / 2 ^ 8) 1) hm hp rfl (b := BitVec.ofNat 8 n.toNat)
  rw [hvalue, hfit, BitVec.ofNat_toNat (m := 9), BitVec.setWidth_eq] at hlast
  exact (runInstrs_cons hfirst _).trans (runInstrs_cons (hlast h1 hn) [])

/-- The digits of a new code commit the entry. -/
theorem runInstrs_digits {s : State} (hm : s.mode = .cbLoad) (hp : s.phase = .digits) {c : Bits} (hc : c ≠ [])
    (hl : s.ccode.length + c.length = s.clen.toNat) (hnew : matchKey s.lut (s.ccode ++ c) = none) :
    runInstrs ((c.map asciiDigit).map .data) s = .next (s.entered (s.ccode ++ c)) := by
  induction c generalizing s with
  | nil => exact absurd rfl hc
  | cons d c ih =>
    have hd : digitBit (asciiDigit d) = some d := by cases d <;> rfl
    rw [List.length_cons] at hl
    by_cases h : c = []
    · subst h
      exact runInstrs_cons (exec_data_newCode hm hp hd hl hnew) []
    · have hpos := List.length_pos_iff.2 h
      have hlen : (s.ccode ++ [d]).length + c.length = s.clen.toNat := by rw [List.length_append, List.length_singleton]; omega
      rw [List.append_cons] at hnew ⊢
      rw [List.map_cons, List.map_cons, runInstrs_cons (exec_data_digit hm hp hd (by omega))]
      exact ih (s := { s with ccode := s.ccode ++ [d] }) hm hp h hlen hnew

/-- The state after all bytes of the entry `e` for the symbol `b`. -/
def State.taken (t : State) (b : Byte) (e : LutEntry) : State := (t.atDigits b e.len).entered e.code

theorem State.lutAt_taken {t : State} (h : Memory.wf LutEntry.absent 256 t.lut = true) {b : Byte} {e : LutEntry} (hv : e.valid = true)
    (c : Byte) : (t.taken b e).lutAt c = if c = b then e else t.lutAt c := by
  have hentry : { valid := true, len := e.len, code := e.code } = e := by rw [← hv]
  calc (t.taken b e).lutAt c
    _ = if c = b then { valid := true, len := e.len, code := e.code } else t.lutAt c :=
      State.lutAt_entered (s := t.atDigits b e.len) h e.code c
    _ = if c = b then e else t.lutAt c := by rw [hentry]

/-- The parser awaits an entry after the first `k` of `n`. -/
structure AwaitsEntry (k n : Nat) (t : State) : Prop where
  mode : t.mode = .cbLoad
  phase : t.phase = .sym
  acc : t.acc = 0
  idx : t.idx = 0
  doneCount : t.doneCount.toNat = k
  cntTotal : t.cntTotal.toNat = n

/-- The bytes of an entry whose symbol and code are new. -/
theorem runInstrs_wireEntry {s t : State} {k n : Nat} (ht : AwaitsEntry k n t) {b : Byte} (hs : (s.lutAt b).sound)
    (hv : (s.lutAt b).valid = true) (hsym : (t.lutAt b).valid = false) (hcode : matchKey t.lut (s.lutAt b).code = none) :
    runInstrs ((s.wireEntry b).map .data) t = .next (t.taken b (s.lutAt b)) := by
  obtain ⟨h1, hn, hl⟩ := hs.of_valid hv
  have hne : (s.lutAt b).code ≠ [] := List.length_pos_iff.1 (hl ▸ h1)
  have hlen := runInstrs_wireLen (s := { t with csym := b, phase := .len }) ht.mode rfl ht.acc ht.idx h1 hn
  have hdigits := runInstrs_digits (s := t.atDigits b (s.lutAt b).len) ht.mode rfl hne ((Nat.zero_add _).trans hl) hcode
  rw [State.wireEntry, List.map_append, List.map_cons, List.cons_append, runInstrs_cons (exec_data_sym_new ht.mode ht.phase hsym),
    runInstrs_append hlen]
  exact hdigits

section
variable {k n : Nat} {t : State} (h : AwaitsEntry k n t) (hk : k < 256)
include h hk

theorem AwaitsEntry.doneCount_succ : (t.doneCount + 1).toNat = k + 1 := by
  rw [toNat_succ_of_lt (h.doneCount ▸ hk), h.doneCount]

theorem AwaitsEntry.taken_last (hn : k + 1 = n) (b : Byte) (e : LutEntry) : (t.taken b e).mode = .idle := by
  have hlast := (h.doneCount_succ hk).trans (hn.trans h.cntTotal.symm)
  rw [State.taken, State.entered_of_last (s := t.atDigits b e.len) hlast]
  rfl

theorem AwaitsEntry.taken_more (hn : k + 1 ≠ n) (b : Byte) (e : LutEntry) : AwaitsEntry (k + 1) n (t.taken b e) := by
  have hdone := h.doneCount_succ hk
  rw [State.taken, State.entered_of_not_last (s := t.atDigits b e.len) fun he => hn (hdone.symm.trans (he.trans h.cntTotal))]
  exact ⟨h.mode, rfl, rfl, rfl, hdone, h.cntTotal⟩

end

/-! ### The codebook being loaded -/

/-- The codebook of `t` is the part of that of `s` with the symbols `ds`, and there is no tree. -/
structure Copied (s : State) (ds : List Byte) (t : State) : Prop where
  lut_wf : Memory.wf LutEntry.absent 256 t.lut = true
  lutAt : ∀ b, t.lutAt b = if b ∈ ds then s.lutAt b else LutEntry.absent
  cbCount : t.cbCount.toNat = ds.length
  cbMaxlen : t.cbMaxlen.toNat = (ds.map fun b => (s.lutAt b).len.toNat).foldl max 0
  treeValid : t.treeValid = false
  node : t.node = []

theorem Copied.of_cleared {s t : State} (hlut : t.lut = [] := by rfl) (hcount : t.cbCount = 0 := by rfl) (hmax : t.cbMaxlen = 0 := by rfl)
    (htree : t.treeValid = false := by rfl) (hnode : t.node = [] := by rfl) : Copied s [] t :=
  ⟨hlut ▸ rfl, fun b => by rw [State.lutAt, hlut]; rfl, hcount ▸ rfl, hmax ▸ rfl, htree, hnode⟩

section
variable {s t : State} {ds : List Byte} (h : Copied s ds t) {b : Byte}
include h

theorem Copied.taken (hds : ds.length < 256) (hv : (s.lutAt b).valid = true) : Copied s (ds ++ [b]) (t.taken b (s.lutAt b)) := by
  obtain ⟨hlut, hcount, hmax, htree, hnode⟩ := State.entered_book (t.atDigits b (s.lutAt b).len) (s.lutAt b).code
  constructor
  · exact hlut ▸ Memory.write_wf h.lut_wf b.isLt
  · intro c
    rw [State.lutAt_taken h.lut_wf hv, h.lutAt]
    by_cases hc : c = b <;> simp [hc]
  · rw [State.taken, hcount, List.length_append, List.length_singleton, ← h.cbCount]
    exact toNat_succ_of_lt (h.cbCount ▸ hds)
  · rw [State.taken, hmax, List.map_append, List.foldl_append, ← h.cbMaxlen]
    rfl
  · exact htree.trans h.treeValid
  · exact hnode.trans h.node

variable (hb : b ∉ ds)
include hb

theorem Copied.new_symbol : (t.lutAt b).valid = false := by
  rw [h.lutAt, if_neg hb]
  rfl

theorem Copied.new_code (hs : LutSound s) (hd : CodesDistinct s) (hv : (s.lutAt b).valid = true) :
    matchKey t.lut (s.lutAt b).code = none := by
  obtain ⟨-, -, hl⟩ := (hs b).of_valid hv
  refine (matchKey_eq_none_iff h.lut_wf).2 fun c hvc hlc hcode => ?_
  rw [h.lutAt] at hvc hlc hcode
  by_cases hc : c ∈ ds
  · rw [if_pos hc] at hvc hlc hcode
    exact hb (hd c b hvc hv (BitVec.eq_of_toNat_eq (hlc.trans hl)) hcode ▸ hc)
  · rw [if_neg hc] at hvc
    exact Bool.false_ne_true hvc

end

/-- A copy of every valid entry is the whole codebook. -/
theorem Copied.lut_eq {s t : State} (h : Copied s s.validSymbols t) (hc : MemoriesCanonical s) (hs : LutSound s) : t.lut = s.lut := by
  have hlutAt (b : Byte) : t.lutAt b = s.lutAt b := by
    rw [h.lutAt]
    split
    · rfl
    · next hv => exact ((hs b).eq_absent (by simpa [State.mem_validSymbols] using hv)).symm
  refine Memory.ext h.lut_wf hc.2.2 fun a => ?_
  by_cases ha : a < 256
  · simpa [State.lutAt, Nat.mod_eq_of_lt ha] using hlutAt (BitVec.ofNat 8 a)
  · rw [Memory.read_of_size_le h.lut_wf (Nat.le_of_not_lt ha), Memory.read_of_size_le hc.2.2 (Nat.le_of_not_lt ha)]

theorem State.length_validSymbols_le (s : State) : s.validSymbols.length ≤ 256 :=
  (List.length_filter_le ..).trans (by simp)

/-- The bytes of the entries that are left, in the order in which they were emitted. -/
theorem runInstrs_wireEntries {s : State} (hs : LutSound s) (hd : CodesDistinct s) {ds bs : List Byte} (hsplit : s.validSymbols = ds ++ bs)
    (hbs : bs ≠ []) {t : State} (hcopy : Copied s ds t) (ht : AwaitsEntry ds.length s.validSymbols.length t) :
    ∃ u, runInstrs ((bs.flatMap s.wireEntry).map .data) t = .next u ∧ u.mode = .idle ∧ Copied s s.validSymbols u := by
  induction bs generalizing ds t with
  | nil => exact absurd rfl hbs
  | cons b bs ih =>
    have hlen := congrArg List.length hsplit
    have hle := s.length_validSymbols_le
    have hnodup := hsplit ▸ s.nodup_validSymbols
    have hv : (s.lutAt b).valid = true := State.mem_validSymbols.1 (by simp [hsplit])
    have hb : b ∉ ds := fun hmem => List.disjoint_of_nodup_append hnodup hmem List.mem_cons_self
    rw [List.length_append, List.length_cons] at hlen
    have hds : ds.length < 256 := by omega
    have hentry := runInstrs_wireEntry ht (hs b) hv (hcopy.new_symbol hb) (hcopy.new_code hb hs hd hv)
    have hcopied := hcopy.taken hds hv
    rw [List.flatMap_cons, List.map_append, runInstrs_append hentry]
    rw [List.append_cons] at hsplit
    by_cases h : bs = []
    · subst h
      rw [List.append_nil] at hsplit
      exact ⟨_, rfl, ht.taken_last hds hlen.symm _ _, hsplit ▸ hcopied⟩
    · have hpos := List.length_pos_iff.2 h
      refine ih hsplit h hcopied ?_
      rw [List.length_append, List.length_singleton]
      exact ht.taken_more hds (by omega) _ _

/-- Settles O43: after the count, every entry of the section is new to the codebook being loaded, by induction over the entries. -/
theorem emitThenLoadGivesTheSameCodebook : Obligations.EmitThenLoadGivesTheSameCodebook := by
  intro s u hc hs hb hd hu
  obtain ⟨hcount, hmax⟩ := hb
  have hle := s.length_validSymbols_le
  have hload : ∃ t, runInstrs (.cbLoad :: s.wireForm.map .data) u = .next t ∧ t.mode = .idle ∧ Copied s s.validSymbols t := by
    rw [runInstrs_cons (exec_cbLoad hu), State.wireForm_eq, List.map_append,
      runInstrs_append (runInstrs_wireCount rfl rfl rfl rfl (hcount ▸ hle)), hcount, State.counted]
    by_cases h0 : s.validSymbols = []
    · rw [h0]
      exact ⟨_, rfl, rfl, .of_cleared⟩
    · rw [if_neg (mt List.length_eq_zero_iff.1 h0)]
      exact runInstrs_wireEntries hs hd (ds := []) rfl h0 .of_cleared ⟨rfl, rfl, rfl, rfl, rfl, Nat.mod_eq_of_lt (by omega)⟩
  obtain ⟨t, hrun, hidle, hcopy⟩ := hload
  exact ⟨t, hrun, hidle, hcopy.lut_eq hc hs, BitVec.eq_of_toNat_eq (hcopy.cbCount.trans hcount.symm),
    BitVec.eq_of_toNat_eq (hcopy.cbMaxlen.trans hmax.symm), hcopy.treeValid, hcopy.node⟩

end Sys2Proof.Machine

/-! ## The bits of the bit writer

What BitPut and BitFlush write, read plainly as bits (41_bitstream.md R98-R101): `Wrote` ties the bytes that have been pushed, the partial
byte in BUF and COMP_COUNT to the bits the writer was given. -/

namespace Sys2Proof.Machine

/-! ### Bits of a byte -/

@[simp] theorem length_lowBits (b : Byte) (n : Nat) : (lowBits b n).length = n := by simp [lowBits]

@[simp] theorem lowBits_zero (b : Byte) : lowBits b 0 = [] := rfl

/-- The bits of a byte whose upper part was shifted up over `k` low bits. -/
theorem lowBits_shiftLeft_or (buf : Byte) {x : Byte} {n k : Nat} (hx : x.toNat < 2 ^ k) (hn : n + k ≤ 8) :
    lowBits ((buf <<< k) ||| x) (n + k) = lowBits buf n ++ lowBits x k := by
  have hhigh (i : Nat) (hi : k ≤ i) : x.getLsbD i = false :=
    Nat.testBit_lt_two_pow (hx.trans_le (Nat.pow_le_pow_right Nat.two_pos hi))
  refine List.ext_getElem (by simp) fun i hi _ => ?_
  rw [length_lowBits] at hi
  by_cases h : i < n
  · have hpos : n + k - 1 - i - k = n - 1 - i := by omega
    have hlow : x.getLsbD (n + k - 1 - i) = false := hhigh _ (by omega)
    rw [List.getElem_append_left (by simpa using h)]
    simp only [lowBits, List.getElem_map, List.getElem_range, BitVec.getLsbD_or, BitVec.getLsbD_shiftLeft, hlow, hpos, Bool.or_false,
      decide_eq_true (by omega : n + k - 1 - i < 8), decide_eq_false (by omega : ¬ n + k - 1 - i < k), Bool.not_false, Bool.true_and]
  · have hpos : n + k - 1 - i = k - 1 - (i - n) := by omega
    rw [List.getElem_append_right (by simpa using h)]
    simp [lowBits, hpos, (by omega : k - 1 - (i - n) < k)]

/-- BitPut's shift adds one bit (R98). -/
theorem lowBits_shiftIn (buf : Byte) (b : Bool) {n : Nat} (hn : n < 8) :
    lowBits ((buf <<< 1) ||| (if b then 1 else 0)) (n + 1) = lowBits buf n ++ [b] := by
  cases b
  · exact lowBits_shiftLeft_or buf (x := 0) (by decide) hn
  · exact lowBits_shiftLeft_or buf (x := 1) (by decide) hn

/-- BitFlush's shift adds zeros (R100). -/
theorem lowBits_shiftLeft (buf : Byte) {n k : Nat} (hn : n + k ≤ 8) :
    lowBits (buf <<< k) (n + k) = lowBits buf n ++ List.replicate k false := by
  have hzero : lowBits 0 k = List.replicate k false := by simp [lowBits]
  rw [← hzero, ← lowBits_shiftLeft_or buf (x := 0) (Nat.two_pow_pos k) hn]
  exact congrArg (lowBits · (n + k)) BitVec.or_zero.symm

@[simp] theorem byteBits_nil : byteBits [] = [] := rfl

@[simp] theorem byteBits_singleton (b : Byte) : byteBits [b] = lowBits b 8 := List.append_nil _

@[simp] theorem byteBits_append (bs cs : List Byte) : byteBits (bs ++ cs) = byteBits bs ++ byteBits cs := List.flatMap_append

@[simp] theorem length_byteBits (bs : List Byte) : (byteBits bs).length = 8 * bs.length := by
  simp [byteBits, List.length_flatMap, Nat.mul_comm]

theorem State.codesOf_cons (s : State) (x : Byte) (xs : List Byte) : s.codesOf (x :: xs) = (s.lutAt x).code ++ s.codesOf xs :=
  List.flatMap_cons

/-! ### What the writer has written -/

/-- From `s` to `t` the writer was given the bits `c` and pushed the bytes `bs`: the bits that BUF held and then `c` are those of `bs` and
then those that BUF holds now. -/
structure Wrote (s : State) (c : Bits) (bs : List Byte) (t : State) : Prop where
  pend : t.pend = s.pend ++ bs
  compCount : t.compCount = s.compCount + BitVec.ofNat 32 bs.length
  bits : byteBits bs ++ lowBits t.buf t.cnt.toNat = lowBits s.buf s.cnt.toNat ++ c

theorem Wrote.refl (s : State) : Wrote s [] [] s := ⟨by simp, by simp, by simp⟩

theorem Wrote.trans {s t u : State} {c d : Bits} {bs cs : List Byte} (h : Wrote s c bs t) (k : Wrote t d cs u) :
    Wrote s (c ++ d) (bs ++ cs) u where
  pend := by rw [k.pend, h.pend, List.append_assoc]
  compCount := by rw [k.compCount, h.compCount, List.length_append, BitVec.ofNat_add, BitVec.add_assoc]
  bits := by rw [byteBits_append, List.append_assoc, k.bits, ← List.append_assoc, h.bits, List.append_assoc]

theorem State.bitPut_wrote (s : State) (b : Bool) : ∃ bs, Wrote s [b] bs (s.bitPut b) := by
  rcases s.bitPut_cases b with ⟨h7, he⟩ | ⟨h7, he⟩ <;> rw [he]
  · refine ⟨_, rfl, rfl, ?_⟩
    rw [h7, ← lowBits_shiftIn _ _ (by decide)]
    exact (List.append_nil _).trans (byteBits_singleton _)
  · have hcnt : (s.cnt + 1).toNat = s.cnt.toNat + 1 := BitVec.toNat_add_of_lt (by simp; omega)
    refine ⟨[], by simp, by simp, ?_⟩
    rw [← lowBits_shiftIn _ _ (by omega), ← hcnt]
    rfl

theorem State.bitPuts_wrote (s : State) (c : Bits) : ∃ bs, Wrote s c bs (s.bitPuts c) := by
  induction c generalizing s with
  | nil => exact ⟨[], .refl s⟩
  | cons b c ih =>
    obtain ⟨bs, hb⟩ := s.bitPut_wrote b
    obtain ⟨cs, hc⟩ := ih (s.bitPut b)
    exact ⟨bs ++ cs, hb.trans hc⟩

/-- BitFlush empties the buffer, and changes PEND and COMP_COUNT only beside it. -/
theorem State.bitFlush_eq (s : State) :
    s.bitFlush = { s with pend := s.bitFlush.pend, compCount := s.bitFlush.compCount, buf := 0, cnt := 0 } := by
  rcases s.bitFlush_cases with ⟨-, h⟩ | ⟨-, h⟩ <;> rw [h]

theorem State.toNat_cnt_ne_zero {s : State} (h : s.cnt ≠ 0) : s.cnt.toNat ≠ 0 := fun h0 => h (BitVec.eq_of_toNat_eq h0)

theorem State.bitFlush_of_empty {s : State} (h : s.cnt = 0) : s.bitFlush = { s with buf := 0, cnt := 0 } := if_neg (by simp [h])

theorem State.bitFlush_of_partial {s : State} (h : s.cnt ≠ 0) :
    s.bitFlush = { s with
      pend := s.pend ++ [s.buf <<< (8 - s.cnt.toNat)], compCount := s.compCount + 1, buf := 0, cnt := 0 } :=
  if_pos (Nat.pos_of_ne_zero (State.toNat_cnt_ne_zero h))

theorem State.toNat_flushPad (s : State) : s.flushPad.toNat = (8 - s.cnt.toNat) % 8 := by
  rw [State.flushPad, BitVec.toNat_ofNat, Nat.mod_mod]

/-- The byte that BitFlush pushes is the partial byte and the padding zeros (R100, R101). -/
theorem State.lowBits_flushed (s : State) :
    lowBits (s.buf <<< (8 - s.cnt.toNat)) 8 = lowBits s.buf s.cnt.toNat ++ List.replicate (8 - s.cnt.toNat) false := by
  have h8 : s.cnt.toNat + (8 - s.cnt.toNat) = 8 := by omega
  rw [← lowBits_shiftLeft s.buf h8.le, h8]

/-- To the bits written, BitFlush is the padding zeros (R100, R104). -/
theorem State.bitFlush_wrote (s : State) : ∃ bs, Wrote s (List.replicate s.flushPad.toNat false) bs s.bitFlush := by
  have hpad := s.toNat_flushPad
  by_cases h0 : s.cnt = 0
  · rw [State.bitFlush_of_empty h0]
    exact ⟨[], by simp, by simp, by simp [hpad, h0]⟩
  · have hpos := State.toNat_cnt_ne_zero h0
    rw [State.bitFlush_of_partial h0]
    refine ⟨_, rfl, rfl, ?_⟩
    rw [show s.flushPad.toNat = 8 - s.cnt.toNat by omega, ← s.lowBits_flushed]
    exact (List.append_nil _).trans (byteBits_singleton _)

section
variable {s t : State} {c : Bits} {bs : List Byte} (h : Wrote s c bs t)
include h

theorem Wrote.length_bits : 8 * bs.length + t.cnt.toNat = s.cnt.toNat + c.length := by
  simpa using congrArg List.length h.bits

/-- A byte is pushed for each eight bits. -/
theorem Wrote.length_bytes : bs.length = (s.cnt.toNat + c.length) / 8 := by
  have := h.length_bits
  omega

theorem Wrote.toNat_cnt : t.cnt.toNat = (s.cnt.toNat + c.length) % 8 := by
  have := h.length_bits
  omega

theorem Wrote.toNat_compCount (hfit : s.compCount.toNat + bs.length < 2 ^ 32) :
    t.compCount.toNat = s.compCount.toNat + bs.length := by
  rw [h.compCount, BitVec.toNat_add, BitVec.toNat_ofNat]
  omega

theorem Wrote.writtenBits : t.writtenBits = s.writtenBits ++ c := by
  rw [State.writtenBits, h.pend, byteBits_append, List.append_assoc, h.bits, ← List.append_assoc, State.writtenBits]

end

end Sys2Proof.Machine

/-! ## The encoder

ENC.BEGIN, DATA in ENCODE and ENC.FLUSH of 45_encoder.md. Each DATA entry writes a code and the flush writes zeros, so a file is one
`Wrote` from the empty buffer of ENC.BEGIN to that of ENC.FLUSH. -/

namespace Sys2Proof.Machine

/-! ### Commands -/

/-- The state after ENC.BEGIN (R129). -/
def State.encoding (s : State) : State :=
  { s with buf := 0, cnt := 0, origCount := 0, compCount := 0, padding := 0, mode := .encode }

@[simp] theorem State.encoding_cnt (s : State) : s.encoding.cnt = 0 := rfl
@[simp] theorem State.encoding_compCount (s : State) : s.encoding.compCount = 0 := rfl
@[simp] theorem State.encoding_origCount (s : State) : s.encoding.origCount = 0 := rfl
@[simp] theorem State.encoding_codesOf (s : State) (xs : List Byte) : s.encoding.codesOf xs = s.codesOf xs := rfl

theorem exec_encBegin {s : State} (h : s.mode = .idle) : exec .encBegin s = .next s.encoding := congrArg _ (inMode_of_mode h _ _)

theorem exec_encFlush {s : State} (h : s.mode = .encode) :
    exec .encFlush s = .next { s.bitFlush with padding := s.flushPad, mode := .idle } :=
  congrArg _ (inMode_of_mode h _ _)

/-- Settles O44: BitFlush pushes a byte exactly when CNT is not 0, and its shift leaves zeros below the partial byte. -/
theorem encoderBeginAndFlush : Obligations.EncoderBeginAndFlush := by
  intro s
  refine ⟨commandRaises_of_noneOpcode (by decide), commandRaises_of_noneOpcode (by decide), exec_encBegin, fun hm h0 => ?_,
    fun hm h0 => ⟨s.buf <<< (8 - s.cnt.toNat), ?_, s.lowBits_flushed⟩⟩
  · rw [exec_encFlush hm, State.bitFlush_of_empty h0, State.flushPad, h0]
    rfl
  · have hpos := State.toNat_cnt_ne_zero h0
    rw [exec_encFlush hm, State.bitFlush_of_partial h0, State.flushPad, Nat.mod_eq_of_lt (by omega)]

/-! ### DATA in ENCODE -/

theorem State.lenOverflows_iff (s : State) (n : Nat) :
    s.lenOverflows n = true ↔
      s.origCount.toNat = 2 ^ 32 - 1 ∨ 2 ^ 32 - 1 < s.compCount.toNat + (s.cnt.toNat + n + 7) / 8 := by
  rw [State.lenOverflows, Bool.or_eq_true, beq_iff_eq, decide_eq_true_iff, ← BitVec.toNat_inj, BitVec.toNat_allOnes]

section
variable {s : State} (hm : s.mode = .encode) {b : Byte}
include hm

theorem exec_data_of_encode : exec (.data b) s = .next (s.encodeByte b) := by
  rw [exec, execData, hm]

theorem exec_data_missingSymbol (hv : (s.lutAt b).valid = false) :
    exec (.data b) s = .next (errorState s 0x420 (b.setWidth 32) (s.seq - 1)) := by
  rw [exec_data_of_encode hm, State.encodeByte, if_neg (ne_true_of_eq_false hv), State.raise_data]
  rfl

variable (hv : (s.lutAt b).valid = true)
include hv

theorem exec_data_lenOverflow (h : s.lenOverflows (s.lutAt b).len.toNat = true) :
    exec (.data b) s = .next (errorState s 0x506 (b.setWidth 32) (s.seq - 1)) := by
  rw [exec_data_of_encode hm, State.encodeByte, if_pos hv, if_pos h, State.raise_data]
  rfl

/-- The whole effect of a byte that is encoded: its code is written and the byte counted. -/
theorem exec_data_wrote (hs : (s.lutAt b).sound) (horig : s.origCount.toNat ≠ 2 ^ 32 - 1)
    (hcomp : s.compCount.toNat + (s.cnt.toNat + (s.lutAt b).len.toNat + 7) / 8 ≤ 2 ^ 32 - 1) :
    ∃ t bs, exec (.data b) s = .next t ∧ Wrote s (s.lutAt b).code bs t ∧
      t = { s with
        pend := t.pend, buf := t.buf, cnt := t.cnt, compCount := t.compCount, origCount := s.origCount + 1 } := by
  have hfit : ¬ s.lenOverflows (s.lutAt b).len.toNat = true := by
    rw [s.lenOverflows_iff]
    omega
  have hexec : exec (.data b) s = .next { s.bitPuts (s.lutAt b).code with origCount := s.origCount + 1 } := by
    rw [exec_data_of_encode hm, State.encodeByte, if_pos hv, if_neg hfit, hs.take_code]
  obtain ⟨bs, hw⟩ := s.bitPuts_wrote (s.lutAt b).code
  refine ⟨_, bs, hexec, ⟨hw.pend, hw.compCount, hw.bits⟩, ?_⟩
  rw [State.bitPuts_eq]

end

/-- Settles O45: where neither check of R130 fails, the code goes through BitPut, which appends it to the bits written. -/
theorem encodeAppendsTheCode : Obligations.EncodeAppendsTheCode := by
  intro s b hm hs
  refine ⟨exec_data_missingSymbol hm, fun hv hover => ?_, fun hv horig hcomp => ?_⟩
  · exact exec_data_lenOverflow hm hv ((s.lenOverflows_iff _).2 hover)
  · obtain ⟨t, bs, hexec, hw, hframe⟩ := exec_data_wrote hm hv hs horig hcomp
    obtain ⟨-, -, hlen⟩ := hs.of_valid hv
    rw [← hlen] at hcomp ⊢
    have hbytes := hw.length_bytes
    refine ⟨t, hexec, hframe, hw.writtenBits, hw.toNat_cnt, ?_, ?_⟩
    · rw [hw.toNat_compCount (by omega), hbytes]
    · rw [hw.pend, List.length_append, hbytes]

/-! ### A file -/

/-- Where the counters have room, the DATA entries of a file write the codes of its bytes one after another and count the bytes. -/
theorem runInstrs_data_wrote {s : State} (hm : s.mode = .encode) (hs : LutSound s) {xs : List Byte}
    (hv : ∀ x ∈ xs, (s.lutAt x).valid = true) (horig : s.origCount.toNat + xs.length < 2 ^ 32)
    (hcomp : s.compCount.toNat + (s.cnt.toNat + (s.codesOf xs).length + 7) / 8 < 2 ^ 32) :
    ∃ t bs, runInstrs (xs.map .data) s = .next t ∧ Wrote s (s.codesOf xs) bs t ∧
      t.origCount.toNat = s.origCount.toNat + xs.length ∧
      t = { s with
        pend := t.pend, buf := t.buf, cnt := t.cnt, compCount := t.compCount, origCount := t.origCount } := by
  induction xs generalizing s with
  | nil => exact ⟨s, [], rfl, .refl s, rfl, rfl⟩
  | cons x xs ih =>
    obtain ⟨hvx, hvxs⟩ := List.forall_mem_cons.1 hv
    obtain ⟨-, -, hlen⟩ := (hs x).of_valid hvx
    rw [List.length_cons] at horig
    rw [State.codesOf_cons, List.length_append] at hcomp
    obtain ⟨u, bs, hexec, hw, hframe⟩ := exec_data_wrote hm hvx (hs x) (by omega) (by omega)
    have hlut (b : Byte) : u.lutAt b = s.lutAt b := by rw [hframe]; rfl
    have hcodes : u.codesOf xs = s.codesOf xs := by simp only [State.codesOf, hlut]
    have hcount : u.origCount.toNat = s.origCount.toNat + 1 := by
      rw [hframe]
      exact BitVec.toNat_add_of_lt (by simp; omega)
    have hcnt := hw.toNat_cnt
    have hbytes := hw.length_bytes
    have hpushed := hw.toNat_compCount (by omega)
    obtain ⟨t, cs, hrun, ht, htcount, htframe⟩ := ih (s := u) ((congrArg State.mode hframe).trans hm) (fun b => hlut b ▸ hs b)
      (fun b hb => hlut b ▸ hvxs b hb) (by omega) (by rw [hcodes]; omega)
    refine ⟨t, bs ++ cs, (runInstrs_cons hexec _).trans hrun, ?_, by rw [htcount, hcount, List.length_cons]; omega, ?_⟩
    · rw [State.codesOf_cons, ← hcodes]
      exact hw.trans ht
    · rw [hframe] at htframe
      exact htframe

/-- The whole effect of the flush: the padding zeros are written, the padding is recorded, and the file ends. -/
theorem exec_encFlush_wrote {s : State} (hm : s.mode = .encode) :
    ∃ t bs, exec .encFlush s = .next t ∧ Wrote s (List.replicate t.padding.toNat false) bs t ∧
      t.padding.toNat = (8 - s.cnt.toNat) % 8 ∧
      t = { s with
        pend := t.pend, buf := 0, cnt := 0, compCount := t.compCount, padding := t.padding, mode := .idle } := by
  obtain ⟨bs, hw⟩ := s.bitFlush_wrote
  refine ⟨_, bs, exec_encFlush hm, ⟨hw.pend, hw.compCount, hw.bits⟩, s.toNat_flushPad, ?_⟩
  rw [State.bitFlush_eq]

/-- Settles O46: after ENC.BEGIN the writer is empty, so the codes and the padding zeros fill whole bytes and are all their bits. -/
theorem encodedFileCarriesTheCodes : Obligations.EncodedFileCarriesTheCodes := by
  intro s xs hm hs hv hlen hcomp
  obtain ⟨u, bs, hdata, hcodes, hcount, hframe⟩ :=
    runInstrs_data_wrote (s := s.encoding) rfl hs hv (by simpa using hlen) (by simpa using hcomp)
  obtain ⟨t, cs, hflush, hzeros, hrest, htframe⟩ := exec_encFlush_wrote (congrArg State.mode hframe)
  have hfile : Wrote s.encoding (s.codesOf xs ++ List.replicate t.padding.toNat false) (bs ++ cs) t := hcodes.trans hzeros
  have hcnt : t.cnt = 0 := by rw [htframe]
  have horig : t.origCount = u.origCount := by rw [htframe]
  have hpad : t.padding.toNat = (8 - (s.codesOf xs).length % 8) % 8 := by simpa [hcodes.toNat_cnt] using hrest
  have hbytes : (bs ++ cs).length = ((s.codesOf xs).length + 7) / 8 := by
    have hstart : s.encoding.cnt.toNat = 0 := rfl
    rw [hfile.length_bytes, List.length_append, List.length_replicate]
    omega
  have hpushed := hfile.toNat_compCount (by simpa [hbytes] using hcomp)
  refine ⟨t, bs ++ cs, ?_, ?_, ?_, ?_, hpad, hbytes, ?_⟩
  · rw [List.append_assoc, List.singleton_append, runInstrs_cons (exec_encBegin hm), runInstrs_append hdata, runInstrs_cons hflush]
    rfl
  · rw [horig]
    refine htframe.trans ?_
    rw [hfile.pend, hframe, ← hm]
    rfl
  · simpa [horig] using hcount
  · simpa [hbytes] using hpushed
  · simpa [hcnt] using hfile.bits

end Sys2Proof.Machine

/-! ## The per-file decoder

DEC.BEGIN and DATA in DECODE of 46_decoder.md, what every step keeps of the decoder, and the round trip of a file (R138): each bit of the
payload brings the key nearer to the code of the symbol that comes next, and no other code is met on the way. -/

namespace Sys2Proof.Machine

/-! ### DEC.BEGIN -/

theorem exec_decBegin {s : State} (h : s.mode = .idle) : exec .decBegin s = .next s.decodeBegin := congrArg _ (inMode_of_mode h _ _)

/-- An error at DEC.BEGIN records the command's word (R136). -/
theorem State.raise_decBegin (s : State) (c : Cause) :
    s.raise c (Instr.value .decBegin) = errorState s c.errWord 0x50000000 (s.seq - 1) := rfl

/-- The state after DEC.BEGIN where its checks pass (R136). -/
def State.latched (s : State) : State :=
  { s with
    decO := s.arg0, decC := s.arg1, decP := BitVec.ofNat 3 s.arg2.toNat, decEmitted := 0, decConsumed := 0, key := [],
    mode := if s.arg1 = 0 then .idle else .decode }

section
variable {s : State} (hm : s.mode = .idle)
include hm

theorem exec_decBegin_badPadding (hp : 7 < s.operandP.toNat) :
    exec .decBegin s = .next (errorState s 0x140 0x50000000 (s.seq - 1)) := by
  rw [exec_decBegin hm, State.decodeBegin, if_pos hp, State.raise_decBegin]
  rfl

variable (hp : s.operandP.toNat ≤ 7)
include hp

theorem exec_decBegin_cbEmpty (hc : s.cbCount = 0) (ho : s.operandO ≠ 0) :
    exec .decBegin s = .next (errorState s 0x135 0x50000000 (s.seq - 1)) := by
  rw [exec_decBegin hm, State.decodeBegin, if_neg (Nat.not_lt.2 hp), if_pos ⟨hc, ho⟩, State.raise_decBegin]
  rfl

theorem exec_decBegin_exhausted (hc : s.cbCount ≠ 0) (h0 : s.operandC = 0) (ho : s.operandO ≠ 0) :
    exec .decBegin s = .next (errorState s 0x141 0x50000000 (s.seq - 1)) := by
  rw [exec_decBegin hm, State.decodeBegin, if_neg (Nat.not_lt.2 hp), if_neg fun h => hc h.1, if_pos ⟨h0, ho⟩, State.raise_decBegin]
  rfl

theorem exec_decBegin_latched (h : s.operandO = 0 ∨ (s.cbCount ≠ 0 ∧ s.operandC ≠ 0)) : exec .decBegin s = .next s.latched := by
  have hcount : ¬ (s.cbCount = 0 ∧ s.operandO ≠ 0) := fun ⟨hc, ho⟩ => h.elim ho fun h => h.1 hc
  have hbytes : ¬ (s.operandC = 0 ∧ s.operandO ≠ 0) := fun ⟨hc, ho⟩ => h.elim ho fun h => h.2 hc
  rw [exec_decBegin hm, State.decodeBegin, if_neg (Nat.not_lt.2 hp), if_neg hcount, if_neg hbytes, hm]
  rfl

end

/-- Settles O47: the three checks and the latch are the four branches of the definition. -/
theorem decodeBeginChecksAndLatches : Obligations.DecodeBeginChecksAndLatches := fun _ =>
  ⟨commandRaises_of_noneOpcode (by decide), exec_decBegin_badPadding, exec_decBegin_cbEmpty, exec_decBegin_exhausted,
    exec_decBegin_latched⟩

/-! ### The key lookup -/

/-- What the lookup finds is a valid entry with the key as its code (R135). -/
theorem code_of_matchKey_eq_some {s : State} (h : Memory.wf LutEntry.absent 256 s.lut = true) {key : Bits} {b : Byte}
    (hm : matchKey s.lut key = some b) :
    (s.lutAt b).valid = true ∧ (s.lutAt b).len.toNat = key.length ∧ (s.lutAt b).code = key := by
  obtain ⟨⟨k, e⟩, hfind, rfl⟩ := Option.map_eq_some_iff.1 hm
  obtain ⟨hread, hne⟩ := (Memory.mem_iff_read h k e).1 (List.mem_of_find?_eq_some hfind)
  have hk : (BitVec.ofNat 8 k).toNat = k :=
    Nat.mod_eq_of_lt (Nat.lt_of_not_le fun hk => hne (hread ▸ Memory.read_of_size_le h hk))
  rw [State.lutAt, hk, hread]
  simpa [and_assoc] using List.find?_some hfind

/-- The lookup finds the symbol whose code the key is, where codes are distinct. -/
theorem matchKey_of_code {s : State} (h : Memory.wf LutEntry.absent 256 s.lut = true) (hs : LutSound s) (hd : CodesDistinct s)
    {key : Bits} {c : Byte} (hv : (s.lutAt c).valid = true) (hc : (s.lutAt c).code = key) : matchKey s.lut key = some c := by
  obtain ⟨-, -, hlen⟩ := (hs c).of_valid hv
  rw [hc] at hlen
  cases hm : matchKey s.lut key with
  | none => exact absurd hc ((matchKey_eq_none_iff h).1 hm c hv hlen.symm)
  | some b =>
    obtain ⟨hvb, hlb, hcb⟩ := code_of_matchKey_eq_some h hm
    exact congrArg some (hd b c hvb hv (BitVec.eq_of_toNat_eq (hlb.trans hlen)) (hcb.trans hc.symm))

/-- The lookup finds nothing where the key is no code. -/
theorem matchKey_of_no_code {s : State} (h : Memory.wf LutEntry.absent 256 s.lut = true) {key : Bits}
    (hc : ∀ c, (s.lutAt c).valid = true → (s.lutAt c).code ≠ key) : matchKey s.lut key = none :=
  (matchKey_eq_none_iff h).2 fun c hv _ => hc c hv

/-! ### One bit -/

/-- The state after a symbol is emitted (R137). -/
def State.emit (s : State) (c : Byte) : State := { s with pend := s.pend ++ [c], decEmitted := s.decEmitted + 1, key := [] }

theorem decodeKeyBits_of_done {s : State} (h : s.decEmitted = s.decO) (bits : Bits) : decodeKeyBits bits s = .ok s := by
  cases bits with
  | nil => rfl
  | cons b bs => exact if_pos h

section
variable {s : State} (hne : s.decEmitted ≠ s.decO) {bit : Bool} (bits : Bits)
include hne

theorem decodeKeyBits_emit {c : Byte} (h : matchKey s.lut (s.key ++ [bit]) = some c) :
    decodeKeyBits (bit :: bits) s = decodeKeyBits bits (s.emit c) := by
  rw [decodeKeyBits, if_neg hne, h]
  rfl

variable (h : matchKey s.lut (s.key ++ [bit]) = none)
include h

theorem decodeKeyBits_unmatchable (hl : s.cbMaxlen.toNat ≤ s.key.length + 1) :
    decodeKeyBits (bit :: bits) s = .error .unmatchable := by
  rw [decodeKeyBits, if_neg hne, h]
  exact if_pos (by rwa [List.length_append])

theorem decodeKeyBits_extend (hl : s.key.length + 1 < s.cbMaxlen.toNat) :
    decodeKeyBits (bit :: bits) s = decodeKeyBits bits { s with key := s.key ++ [bit] } := by
  rw [decodeKeyBits, if_neg hne, h]
  exact if_neg (by rw [List.length_append]; exact Nat.not_le.2 hl)

end

/-- Settles O49: the lookup finds the one valid entry whose code the key is, and nothing where the key is no code. -/
theorem keyMatchesAtTheFirstCode : Obligations.KeyMatchesAtTheFirstCode := by
  intro s bit bits hc hs hd hne
  refine ⟨fun c hv hcode => decodeKeyBits_emit hne bits (matchKey_of_code hc.2.2 hs hd hv hcode), fun hno => ?_⟩
  have hnone := matchKey_of_no_code hc.2.2 hno
  exact ⟨decodeKeyBits_unmatchable hne bits hnone, decodeKeyBits_extend hne bits hnone⟩

/-! ### One byte -/

/-- The bits of a payload byte that are read: all eight, but for the C-th byte, whose low P bits are padding (41_bitstream.md R103). -/
def State.validBits (s : State) (b : Byte) : Bits :=
  (lowBits b 8).take (if s.decConsumed + 1 = s.decC then 8 - s.decP.toNat else 8)

theorem bitsOf_eq_take (b : Byte) {n : Nat} (h : n ≤ 8) : bitsOf b n = (lowBits b 8).take n := by
  rw [bitsOf, lowBits, ← List.map_take, List.take_range, min_eq_left h]

theorem State.bitsOf_nvalid (s : State) (b : Byte) : bitsOf b (nvalid s.decConsumed s.decC s.decP) = s.validBits b := by
  have hle : nvalid s.decConsumed s.decC s.decP ≤ 8 := by unfold nvalid; split <;> omega
  rw [bitsOf_eq_take b hle, State.validBits, nvalid]
  simp only [eq_sub_iff_add_eq]

section
variable {s : State} (hm : s.mode = .decode) {b : Byte}
include hm

theorem exec_data_of_decode : exec (.data b) s = .next (s.decodeByte b) := by
  rw [exec, execData, hm]

theorem exec_data_unmatchable (h : decodeKeyBits (s.validBits b) s = .error .unmatchable) :
    exec (.data b) s = .next (errorState s 0x142 (b.setWidth 32) (s.seq - 1)) := by
  rw [exec_data_of_decode hm, State.decodeByte, s.bitsOf_nvalid, h]
  exact congrArg _ (s.raise_data .unmatchable b)

section
variable {u : State} (h : decodeKeyBits (s.validBits b) s = .ok u)
include h

theorem exec_data_decoded : exec (.data b) s = .next (u.decodeCounted b) := by
  rw [exec_data_of_decode hm, State.decodeByte, s.bitsOf_nvalid, h]

/-- A byte before the C-th is counted. -/
theorem exec_data_decoded_more (hc : s.decConsumed + 1 ≠ s.decC) :
    exec (.data b) s = .next { u with decConsumed := s.decConsumed + 1 } := by
  rw [exec_data_decoded hm h, decodeKeyBits_eq h]
  exact congrArg _ (if_neg hc)

variable (hc : s.decConsumed + 1 = s.decC)
include hc

/-- The C-th byte is the last, and symbols are missing. -/
theorem exec_data_decoded_exhausted (ho : u.decEmitted.toNat < s.decO.toNat) :
    exec (.data b) s = .next (errorState s 0x141 (b.setWidth 32) (s.seq - 1)) := by
  rw [exec_data_decoded hm h, decodeKeyBits_eq h, State.decodeCounted, if_pos hc, if_pos ho, State.raise_data]
  rfl

/-- The C-th byte ends the file. -/
theorem exec_data_decoded_last (ho : s.decO.toNat ≤ u.decEmitted.toNat) :
    exec (.data b) s = .next { u with decConsumed := s.decConsumed + 1, key := [], mode := .idle } := by
  rw [exec_data_decoded hm h, decodeKeyBits_eq h, State.decodeCounted, if_pos hc, if_neg (Nat.not_lt.2 ho)]

end

end

/-- Settles O48: the byte's bits go through the bit loop, and then the count of bytes decides. -/
theorem decodeConsumesOnePayloadByte : Obligations.DecodeConsumesOnePayloadByte := by
  rintro s b _ hm rfl
  exact ⟨fun h => decodeKeyBits_of_done h _, exec_data_unmatchable hm, fun u h =>
    ⟨exec_data_decoded_more hm h, exec_data_decoded_exhausted hm h, exec_data_decoded_last hm h⟩⟩

/-! ### The decoder stays sound -/

/-- KEY is empty or shorter than CB_MAXLEN, and no more than O symbols are out (R137). -/
def State.keySound (s : State) : Prop :=
  (s.key = [] ∨ s.key.length < s.cbMaxlen.toNat) ∧ s.decEmitted.toNat ≤ s.decO.toNat

/-- A symbol is emitted only where fewer than O are out, so the count does not wrap. -/
theorem State.emit_keySound {s : State} (hs : s.keySound) (hne : s.decEmitted ≠ s.decO) (c : Byte) : (s.emit c).keySound := by
  have hlt : s.decEmitted.toNat < s.decO.toNat := lt_of_le_of_ne hs.2 (mt BitVec.eq_of_toNat_eq hne)
  have hcount : (s.emit c).decEmitted.toNat = s.decEmitted.toNat + 1 := BitVec.toNat_add_of_lt (by simp; omega)
  exact ⟨.inl rfl, hcount ▸ hlt⟩

theorem decodeKeyBits_keySound {bits : Bits} {s t : State} (h : decodeKeyBits bits s = .ok t) (hs : s.keySound) : t.keySound := by
  induction bits generalizing s with
  | nil => cases h; exact hs
  | cons b bs ih =>
    rw [decodeKeyBits] at h
    split at h
    · cases h; exact hs
    · next hne =>
      split at h
      · exact ih h (State.emit_keySound hs hne _)
      · split at h
        · cases h
        · next hl => exact ih h ⟨.inr (Nat.lt_of_not_le hl), hs.2⟩

namespace DecoderSound

/-- Outside DECODE the key is empty. -/
theorem of_key_nil {s : State} (hm : s.mode ≠ .decode) (hkey : s.key = []) : DecoderSound s :=
  ⟨fun _ => hkey, fun h => absurd h hm⟩

/-- A change outside DECODE that leaves KEY as it is and does not enter DECODE. -/
theorem of_not_decoding {s t : State} (hs : DecoderSound s) (hm : s.mode ≠ .decode) (ht : t.mode ≠ .decode)
    (hkey : t.key = s.key := by rfl) : DecoderSound t :=
  of_key_nil ht (hkey.trans (hs.1 hm))

theorem errorEntry (s : State) (c : Cause) (info eseq : Word) : DecoderSound (s.errorEntry c info eseq) := of_key_nil nofun rfl

end DecoderSound

theorem inMode_decoderSound {m : Mode} {s : State} (i : Instr) {f : State → State} (h : s.mode = m → DecoderSound (f s)) :
    DecoderSound (inMode m i s f) := by
  rcases inMode_cases m i s f with ⟨hm, he⟩ | ⟨-, he⟩ <;> rw [he]
  · exact h hm
  · exact .errorEntry ..

theorem LoadEffect.decoderSound {s t : State} (h : LoadEffect s t) (hm : s.mode = .cbLoad) (hs : DecoderSound s) : DecoderSound t := by
  have hne : s.mode ≠ .decode := by simp [hm]
  cases h with
  | raise => exact .errorEntry ..
  | collect | count | sym | len | digit | entry => exact hs.of_not_decoding hne hne
  | countZero | lastEntry => exact hs.of_not_decoding hne nofun

/-- Before the C-th byte the count of bytes does not wrap. -/
theorem State.decodeByte_decoderSound {s : State} (hs : DecoderSound s) (hm : s.mode = .decode) (b : Byte) :
    DecoderSound (s.decodeByte b) := by
  obtain ⟨hkey, hout, hbytes⟩ := hs.2 hm
  unfold State.decodeByte
  split
  · exact .errorEntry ..
  · next u hu =>
    obtain ⟨hukey, huout⟩ := decodeKeyBits_keySound hu ⟨hkey, hout⟩
    rw [decodeKeyBits_eq hu] at hukey huout ⊢
    unfold State.decodeCounted
    split
    · split
      · exact .errorEntry ..
      · exact .of_key_nil nofun rfl
    · next hc =>
      refine ⟨fun hne => absurd hm hne, fun _ => ⟨hukey, huout, ?_⟩⟩
      have hcount : (s.decConsumed + 1).toNat = s.decConsumed.toNat + 1 := BitVec.toNat_add_of_lt (by simp; omega)
      exact lt_of_le_of_ne (hcount ▸ hbytes) (mt BitVec.eq_of_toNat_eq hc)

theorem State.encodeByte_decoderSound {s : State} (hs : DecoderSound s) (hm : s.mode = .encode) (b : Byte) :
    DecoderSound (s.encodeByte b) := by
  have hne : s.mode ≠ .decode := by simp [hm]
  unfold State.encodeByte
  split
  · split
    · exact .errorEntry ..
    · rw [State.bitPuts_eq]
      exact hs.of_not_decoding hne hne
  · exact .errorEntry ..

theorem State.tabulateByte_decoderSound {s : State} (hs : DecoderSound s) (b : Byte) : DecoderSound (s.tabulateByte b) := by
  unfold State.tabulateByte
  split
  · exact .errorEntry ..
  · exact hs

theorem execData_decoderSound {b : Byte} {s t : State} (h : execData b s = .next t) (hs : DecoderSound s) : DecoderSound t := by
  cases h
  split
  · exact .errorEntry ..
  · exact State.tabulateByte_decoderSound hs b
  · next hm => exact State.encodeByte_decoderSound hs hm b
  · next hm => exact (s.loadByte_effect b).decoderSound hm hs
  · next hm => exact State.decodeByte_decoderSound hs hm b
  · exact hs

/-- DECODE is entered with an empty key, no symbol out, and C > 0 (R136). -/
theorem State.decodeBegin_decoderSound {s : State} (hm : s.mode = .idle) : DecoderSound s.decodeBegin := by
  unfold State.decodeBegin
  split
  · exact .errorEntry ..
  · split
    · exact .errorEntry ..
    · split
      · exact .errorEntry ..
      · by_cases hc : s.operandC = 0
        · exact .of_key_nil (by simp [hc, hm]) rfl
        · have hpos : 0 < s.operandC.toNat := Nat.pos_of_ne_zero fun h => hc (BitVec.eq_of_toNat_eq h)
          exact ⟨fun _ => rfl, fun _ => ⟨.inl rfl, Nat.zero_le _, hpos⟩⟩

theorem State.abort_decoderSound {s : State} (hs : DecoderSound s) : DecoderSound s.abort := by
  unfold State.abort
  split
  · exact hs
  · exact .errorEntry ..

theorem State.clearErr_decoderSound {s : State} (hs : DecoderSound s) : DecoderSound s.clearErr := by
  unfold State.clearErr
  split
  · next hm => exact hs.of_not_decoding (by simp [hm]) nofun
  · exact hs

theorem exec_decoderSound {i : Instr} {s t : State} (h : exec i s = .next t) (hs : DecoderSound s) : DecoderSound t := by
  cases i with
  | nop | arg0 | arg1 | arg2 => cases h; exact hs
  | data b => exact execData_decoderSound h hs
  | histClear | freqSet | freqGet | cbEmit => cases h; exact inMode_decoderSound _ fun _ => hs
  | histBegin | histEnd | cbLoad | encBegin => cases h; exact inMode_decoderSound _ fun hm => hs.of_not_decoding (by simp [hm]) nofun
  | cbClear => cases h; exact inMode_decoderSound _ fun hm => hs.of_not_decoding (by simp [hm]) (by simp [hm])
  | build =>
    cases h
    refine inMode_decoderSound _ fun hm => ?_
    rw [State.buildTree_frame]
    exact hs.of_not_decoding (by simp [hm]) (by simp [hm])
  | nodeGet | cbGet =>
    cases h
    refine inMode_decoderSound _ fun _ => ?_
    split <;> exact hs
  | encFlush =>
    cases h
    refine inMode_decoderSound _ fun hm => hs.of_not_decoding (by simp [hm]) nofun ?_
    rw [State.bitFlush_eq]
  | decBegin => cases h; exact inMode_decoderSound _ State.decodeBegin_decoderSound
  | ctrlSoftReset => cases h; exact .of_key_nil nofun rfl
  | ctrlAbort clear =>
    cases h
    cases clear with
    | false => exact State.abort_decoderSound hs
    | true => exact State.clearErr_decoderSound (State.abort_decoderSound hs)
  | ctrlClearErr => cases h; exact State.clearErr_decoderSound hs

theorem decoderSound_keptByExec : KeptByExec DecoderSound where
  frame h hs := by rw [h]; exact hs
  errorEntry c info eseq _ := .errorEntry _ c info eseq
  exec := exec_decoderSound

/-- Settles O55: the codebook changes in IDLE and CB_LOAD only, and in DECODE a key that stays unmatched is shorter than CB_MAXLEN. -/
theorem decoderStaysSound : Obligations.DecoderStaysSound := fun _ _ hs h => decoderSound_keptByExec.step h hs

/-! ### Encoding without error -/

theorem State.lutAt_congr {s t : State} (h : t.lut = s.lut) : t.lutAt = s.lutAt := by
  funext b
  rw [State.lutAt, h]
  rfl

theorem State.codesOf_congr {s t : State} (h : t.lut = s.lut) : t.codesOf = s.codesOf := by
  funext xs
  simp only [State.codesOf, State.lutAt_congr h]

theorem State.codesOf_append (s : State) (xs ys : List Byte) : s.codesOf (xs ++ ys) = s.codesOf xs ++ s.codesOf ys := List.flatMap_append

theorem exec_data_of_error {s : State} (hm : s.mode = .error) (b : Byte) : exec (.data b) s = .next s := by rw [exec, execData, hm]

theorem exists_runInstrs (is : List Instr) (s : State) : ∃ t, runInstrs is s = .next t := by
  induction is generalizing s with
  | nil => exact ⟨s, rfl⟩
  | cons i is ih =>
    obtain ⟨u, hu⟩ := exists_exec i s
    rw [runInstrs_cons hu]
    exact ih u

/-- Every byte of the file has a code, and the counters have room for the bytes and for their codes (45_encoder.md R130). -/
structure Encodable (s : State) (xs : List Byte) : Prop where
  valid : ∀ x ∈ xs, (s.lutAt x).valid = true
  origCount : s.origCount.toNat + xs.length < 2 ^ 32
  compCount : s.compCount.toNat + (s.cnt.toNat + (s.codesOf xs).length + 7) / 8 < 2 ^ 32

/-- A byte that raises no error passed both checks of R130. -/
theorem encodable_singleton {s t : State} (hm : s.mode = .encode) (hs : LutSound s) {x : Byte} (h : exec (.data x) s = .next t)
    (ht : t.mode ≠ .error) : Encodable s [x] := by
  have hno {err : Word} : exec (.data x) s ≠ .next (errorState s err (x.setWidth 32) (s.seq - 1)) := fun he =>
    ht (Host.Outcome.next.inj (h.symm.trans he) ▸ rfl)
  have hv : (s.lutAt x).valid = true := by
    by_contra hv
    exact hno (exec_data_missingSymbol hm (by simpa using hv))
  have hroom := mt (exec_data_lenOverflow hm hv) hno
  rw [s.lenOverflows_iff] at hroom
  obtain ⟨-, -, hlen⟩ := (hs x).of_valid hv
  have horig := s.origCount.isLt
  have hcodes : (s.codesOf [x]).length = (s.lutAt x).len.toNat := by
    rw [State.codesOf_cons, ← hlen]
    exact congrArg _ (List.append_nil _)
  exact ⟨by simpa using hv, by rw [List.length_singleton]; omega, by rw [hcodes]; omega⟩

/-- DATA entries that end outside ERROR raised no error: by induction over the file, its last byte came after an encodable part. -/
theorem encodable_of_runInstrs_data {s t : State} (hm : s.mode = .encode) (hs : LutSound s)
    (hroom : s.compCount.toNat + (s.cnt.toNat + 7) / 8 < 2 ^ 32) {xs : List Byte} (h : runInstrs (xs.map .data) s = .next t)
    (ht : t.mode ≠ .error) : Encodable s xs := by
  induction xs using List.reverseRecOn generalizing t with
  | nil => exact ⟨nofun, s.origCount.isLt, hroom⟩
  | append_singleton xs x ih =>
    obtain ⟨u, hu⟩ := exists_runInstrs (xs.map .data) s
    obtain ⟨t', hx⟩ := exists_exec (.data x) u
    rw [List.map_append, runInstrs_append hu] at h
    obtain rfl : t' = t := Host.Outcome.next.inj ((runInstrs_cons hx []).symm.trans h)
    have hue : u.mode ≠ .error := fun hue => ht (Host.Outcome.next.inj (hx.symm.trans (exec_data_of_error hue x)) ▸ hue)
    obtain ⟨hv, horig, hcomp⟩ := ih hu hue
    obtain ⟨u', bs, hu', hw, hcount, hframe⟩ := runInstrs_data_wrote hm hs hv horig hcomp
    obtain rfl : u' = u := Host.Outcome.next.inj (hu'.symm.trans hu)
    have hlut : u'.lut = s.lut := by rw [hframe]
    have hlutAt := State.lutAt_congr hlut
    obtain ⟨hvx, horigx, hcompx⟩ :=
      encodable_singleton ((congrArg State.mode hframe).trans hm) (fun b => by rw [hlutAt]; exact hs b) hx ht
    rw [hlutAt] at hvx
    rw [State.codesOf_congr hlut] at hcompx
    have hcnt := hw.toNat_cnt
    have hbytes := hw.length_bytes
    have hpushed := hw.toNat_compCount (by omega)
    refine ⟨List.forall_mem_append.2 ⟨hv, hvx⟩, ?_, ?_⟩
    · rw [List.length_append]
      omega
    · rw [State.codesOf_append, List.length_append]
      omega

/-- An encoded file that ends in IDLE raised no error: ENC.FLUSH does not leave ERROR. -/
theorem encodable_of_encoded {s t : State} (hm : s.mode = .idle) (hs : LutSound s) {xs : List Byte}
    (h : runInstrs ([.encBegin] ++ xs.map .data ++ [.encFlush]) s = .next t) (ht : t.mode = .idle) : Encodable s.encoding xs := by
  obtain ⟨u, hu⟩ := exists_runInstrs (xs.map .data) s.encoding
  refine encodable_of_runInstrs_data (s := s.encoding) rfl hs (by simp) hu fun hue => ?_
  rw [List.append_assoc, List.singleton_append, runInstrs_cons (exec_encBegin hm), runInstrs_append hu,
    runInstrs_cons (illegalInModeRaises.1 .encFlush u rfl nofun (by simp [hue, Instr.legalIn]))] at h
  cases h
  cases ht

/-! ### Decoding what was encoded -/

/-- What the decoder needs of a codebook in which no code begins another: sound entries, and no code longer than CB_MAXLEN. -/
structure Decodable (s : State) : Prop where
  lut_wf : Memory.wf LutEntry.absent 256 s.lut = true
  sound : LutSound s
  prefixFree : CodesPrefixFree s
  length_le : ∀ b, (s.lutAt b).valid = true → (s.lutAt b).code.length ≤ s.cbMaxlen.toNat

theorem CodebookCounted.len_le {s : State} (h : CodebookCounted s) {b : Byte} (hv : (s.lutAt b).valid = true) :
    (s.lutAt b).len.toNat ≤ s.cbMaxlen.toNat :=
  (List.max?_eq_some_iff.1 (List.max?_cons'.trans (congrArg some h.2.symm))).2 _
    (List.mem_cons_of_mem 0 (List.mem_map_of_mem (State.mem_validSymbols.2 hv)))

theorem CodebookCounted.cbCount_ne_zero {s : State} (h : CodebookCounted s) {b : Byte} (hv : (s.lutAt b).valid = true) :
    s.cbCount ≠ 0 := fun h0 => by
  have hpos := List.length_pos_of_mem (State.mem_validSymbols.2 hv)
  rw [← h.1, h0] at hpos
  exact Nat.lt_irrefl 0 hpos

namespace Decodable

theorem of_counted {s : State} (hc : MemoriesCanonical s) (hs : LutSound s) (hb : CodebookCounted s) (hp : CodesPrefixFree s) :
    Decodable s :=
  ⟨hc.2.2, hs, hp, fun b hv => ((hs b).of_valid hv).2.2.trans_le (hb.len_le hv)⟩

/-- The decoder sees the codebook by the LUT and CB_MAXLEN only. -/
theorem congr {s t : State} (h : Decodable s) (hlut : t.lut = s.lut) (hmax : t.cbMaxlen = s.cbMaxlen) : Decodable t := by
  have hat := State.lutAt_congr hlut
  obtain ⟨hw, hs, hp, hl⟩ := h
  constructor
  · rwa [hlut]
  · rwa [LutSound, hat]
  · rwa [CodesPrefixFree, hat]
  · rwa [hat, hmax]

variable {s : State} (h : Decodable s)
include h

/-- Of two valid entries with equal codes, the code of one begins that of the other. -/
theorem codesDistinct : CodesDistinct s := by
  intro a b ha hb _ hcode
  by_contra hne
  exact h.prefixFree a b hne ha hb (hcode ▸ List.prefix_rfl)

theorem code_ne_nil {b : Byte} (hv : (s.lutAt b).valid = true) : (s.lutAt b).code ≠ [] := by
  obtain ⟨hpos, -, hlen⟩ := (h.sound b).of_valid hv
  exact List.length_pos_iff.1 (hlen ▸ hpos)

/-- No proper beginning of a code is a code. -/
theorem matchKey_of_proper_prefix {b : Byte} (hv : (s.lutAt b).valid = true) {key : Bits} (hk : key <+: (s.lutAt b).code)
    (hlt : key.length < (s.lutAt b).code.length) : matchKey s.lut key = none := by
  refine matchKey_of_no_code h.lut_wf fun c hvc hc => ?_
  by_cases hcb : c = b
  · rw [hcb] at hc
    exact hlt.ne' (congrArg List.length hc)
  · exact h.prefixFree c b hcb hvc hv (hc ▸ hk)

end Decodable

/-- The symbols `ys` are still to come, and their codes are the key and then the bits `c`; the key ends before the first code does. -/
structure Reading (s : State) (ys : List Byte) (c : Bits) : Prop where
  valid : ∀ y ∈ ys, (s.lutAt y).valid = true
  codes : s.key ++ c = s.codesOf ys
  key_lt : ∀ y ∈ ys.head?, s.key.length < (s.lutAt y).code.length
  count : s.decEmitted.toNat + ys.length = s.decO.toNat

/-- From `s` the decoder went on to `t` and emitted `ds`. -/
def Emitted (s : State) (ds : List Byte) (t : State) : Prop :=
  t = { s with pend := s.pend ++ ds, decEmitted := t.decEmitted, key := t.key }

theorem Emitted.nil {s : State} {key : Bits} : Emitted s [] { s with key := key } := by
  rw [Emitted, List.append_nil]

theorem Emitted.trans {s t u : State} {ds es : List Byte} (h : Emitted s ds t) (k : Emitted t es u) : Emitted s (ds ++ es) u := by
  rw [Emitted, ← List.append_assoc]
  rw [h] at k
  exact k

theorem Decodable.of_emitted {s t : State} {ds : List Byte} (hd : Decodable s) (h : Emitted s ds t) : Decodable t :=
  hd.congr (by rw [h]) (by rw [h])

namespace Reading

/-- With no bit left no symbol is to come. -/
theorem eq_nil {s : State} {ys : List Byte} (h : Reading s ys []) : ys = [] := by
  obtain ⟨-, hcodes, hlt, -⟩ := h
  rw [List.append_nil] at hcodes
  cases ys with
  | nil => rfl
  | cons y ys =>
    have hlen := hlt y rfl
    rw [hcodes, State.codesOf_cons, List.length_append] at hlen
    omega

/-- With a bit left there is a symbol to come, and the key with the bit begins its code. -/
theorem exists_code {s : State} {ys : List Byte} {b : Bool} {c : Bits} (h : Reading s ys (b :: c)) :
    ∃ y zs, ys = y :: zs ∧ s.key ++ [b] <+: (s.lutAt y).code ∧ s.decEmitted.toNat < s.decO.toNat := by
  obtain ⟨-, hcodes, hlt, hcount⟩ := h
  rw [List.append_cons] at hcodes
  cases ys with
  | nil => simp [State.codesOf] at hcodes
  | cons y zs =>
    rw [State.codesOf_cons] at hcodes
    rw [List.length_cons] at hcount
    have hle : (s.key ++ [b]).length ≤ (s.lutAt y).code.length := by
      rw [List.length_append]
      exact hlt y rfl
    exact ⟨y, zs, rfl, List.prefix_of_prefix_length_le ⟨c, hcodes⟩ (List.prefix_append ..) hle, by omega⟩

/-- A bit that completes the code of the next symbol: it is emitted, and the code after it begins with the next bit. -/
theorem emit {s : State} (hd : Decodable s) {y : Byte} {zs : List Byte} {b : Bool} {c : Bits} (h : Reading s (y :: zs) (b :: c))
    (hcode : (s.lutAt y).code = s.key ++ [b]) : Reading (s.emit y) zs c := by
  obtain ⟨hv, hcodes, -, hcount⟩ := h
  rw [List.length_cons] at hcount
  have hsucc : (s.emit y).decEmitted.toNat = s.decEmitted.toNat + 1 := BitVec.toNat_add_of_lt (by simp; omega)
  refine ⟨fun z hz => hv z (List.mem_cons_of_mem y hz), ?_, fun z hz => ?_, by rw [hsucc, ← Nat.add_right_comm]; exact hcount⟩
  · rw [List.append_cons, State.codesOf_cons, hcode] at hcodes
    exact List.append_cancel_left hcodes
  · have hmem := List.mem_of_mem_head? hz
    exact List.length_pos_iff.2 (hd.code_ne_nil (hv z (List.mem_cons_of_mem y hmem)))

/-- A bit inside the code of the next symbol joins the key. -/
theorem extend {s : State} {y : Byte} {zs : List Byte} {b : Bool} {c : Bits} (h : Reading s (y :: zs) (b :: c))
    (hlt : s.key.length + 1 < (s.lutAt y).code.length) : Reading { s with key := s.key ++ [b] } (y :: zs) c where
  valid := h.valid
  codes := (List.append_cons ..).symm.trans h.codes
  key_lt := by
    rintro _ ⟨⟩
    rw [List.length_append]
    exact hlt
  count := h.count

/-- One bit: it completes the code of the next symbol, or the key stays a proper beginning of that code, which is no code itself. -/
theorem decodeKeyBits_cons {s : State} (hd : Decodable s) {ys : List Byte} {b : Bool} {c : Bits} (h : Reading s ys (b :: c)) :
    ∃ ds zs u, ys = ds ++ zs ∧ Emitted s ds u ∧ Reading u zs c ∧ ∀ bits, decodeKeyBits (b :: bits) s = decodeKeyBits bits u := by
  obtain ⟨y, zs, rfl, hkey, hout⟩ := h.exists_code
  have hne : s.decEmitted ≠ s.decO := fun he => hout.ne (congrArg BitVec.toNat he)
  have hv := h.valid y List.mem_cons_self
  have hle := hkey.length_le
  by_cases hlen : (s.key ++ [b]).length = (s.lutAt y).code.length
  · have hcode := hkey.eq_of_length hlen
    refine ⟨[y], zs, s.emit y, rfl, rfl, h.emit hd hcode.symm, fun bits => ?_⟩
    exact decodeKeyBits_emit hne bits (matchKey_of_code hd.lut_wf hd.sound hd.codesDistinct hv hcode.symm)
  · have hlt := Nat.lt_of_le_of_ne hle hlen
    have hnone := hd.matchKey_of_proper_prefix hv hkey hlt
    rw [List.length_append] at hlt
    refine ⟨[], y :: zs, { s with key := s.key ++ [b] }, rfl, .nil, h.extend hlt, fun bits => ?_⟩
    exact decodeKeyBits_extend hne bits hnone (Nat.lt_of_lt_of_le hlt (hd.length_le y hv))

/-- The bits of a byte, or of any part of the codes. -/
theorem decodeKeyBits_append {s : State} (hd : Decodable s) {ys : List Byte} {bits c : Bits} (h : Reading s ys (bits ++ c)) :
    ∃ ds zs u, ys = ds ++ zs ∧ Emitted s ds u ∧ Reading u zs c ∧ decodeKeyBits bits s = .ok u := by
  induction bits generalizing s ys with
  | nil => exact ⟨[], ys, s, rfl, .nil, h, rfl⟩
  | cons b bits ih =>
    obtain ⟨ds, zs, u, rfl, hu, hread, hbit⟩ := h.decodeKeyBits_cons hd
    obtain ⟨es, zs, v, rfl, hv, hrest, hbits⟩ := ih (hd.of_emitted hu) hread
    exact ⟨ds ++ es, zs, v, (List.append_assoc ..).symm, hu.trans hv, hrest, (hbit bits).trans hbits⟩

end Reading

theorem State.validBits_of_more {s : State} (h : s.decConsumed + 1 ≠ s.decC) (b : Byte) : s.validBits b = lowBits b 8 := by
  rw [State.validBits, if_neg h, List.take_of_length_le (length_lowBits b 8).le]

/-- The bits of the C-th byte that are read are those before its padding. -/
theorem State.validBits_of_last {s : State} (h : s.decConsumed + 1 = s.decC) {b : Byte} {c : Bits}
    (hb : lowBits b 8 = c ++ List.replicate s.decP.toNat false) : s.validBits b = c := by
  have hlen := congrArg List.length hb
  rw [length_lowBits, List.length_append, List.length_replicate] at hlen
  rw [State.validBits, if_pos h, hb, List.take_left' (by omega)]

/-- A byte before the C-th, when all its bits are bits of the codes. -/
theorem exec_data_reading_more {s : State} (hm : s.mode = .decode) (hd : Decodable s) {ys : List Byte} {b : Byte} {c : Bits}
    (h : Reading s ys (lowBits b 8 ++ c)) (hc : s.decConsumed + 1 ≠ s.decC) :
    ∃ ds zs t, ys = ds ++ zs ∧ exec (.data b) s = .next t ∧ Reading t zs c ∧
      t = { s with
        pend := s.pend ++ ds, decEmitted := t.decEmitted, key := t.key, decConsumed := s.decConsumed + 1 } := by
  obtain ⟨ds, zs, u, rfl, hu, hread, hbits⟩ := h.decodeKeyBits_append hd
  rw [← State.validBits_of_more hc b] at hbits
  refine ⟨ds, zs, _, rfl, exec_data_decoded_more hm hbits hc, ⟨hread.valid, hread.codes, hread.key_lt, hread.count⟩, ?_⟩
  rw [hu]

/-- The C-th byte, when its bits before the padding are the last of the codes. -/
theorem exec_data_reading_last {s : State} (hm : s.mode = .decode) (hd : Decodable s) {ys : List Byte} {c : Bits} (h : Reading s ys c)
    (hc : s.decConsumed + 1 = s.decC) {b : Byte} (hb : lowBits b 8 = c ++ List.replicate s.decP.toNat false) :
    ∃ t, exec (.data b) s = .next t ∧ t.mode = .idle ∧ t.err = s.err ∧ t.pend = s.pend ++ ys := by
  rw [← c.append_nil] at h
  obtain ⟨ds, zs, u, rfl, hu, hread, hbits⟩ := h.decodeKeyBits_append hd
  obtain rfl := hread.eq_nil
  rw [← State.validBits_of_last hc hb] at hbits
  have hO : u.decO = s.decO := by rw [hu]
  refine ⟨_, exec_data_decoded_last hm hbits hc (hO ▸ hread.count.ge), rfl, ?_, ?_⟩
  · rw [hu]
  · rw [hu, List.append_nil]

/-- The payload of a file gives its symbols back, byte by byte. -/
theorem runInstrs_data_reading {s : State} (hm : s.mode = .decode) (hd : Decodable s) {ys bs : List Byte} {c : Bits}
    (h : Reading s ys c) (hbs : bs ≠ []) (hC : s.decConsumed.toNat + bs.length = s.decC.toNat)
    (hbits : byteBits bs = c ++ List.replicate s.decP.toNat false) :
    ∃ t, runInstrs (bs.map .data) s = .next t ∧ t.mode = .idle ∧ t.err = s.err ∧ t.pend = s.pend ++ ys := by
  induction bs generalizing s ys c with
  | nil => exact absurd rfl hbs
  | cons b bs ih =>
    rw [List.length_cons] at hC
    have hcount : (s.decConsumed + 1).toNat = s.decConsumed.toNat + 1 := BitVec.toNat_add_of_lt (by simp; omega)
    by_cases hlast : bs = []
    · subst hlast
      rw [byteBits_singleton] at hbits
      have hc : s.decConsumed + 1 = s.decC := BitVec.eq_of_toNat_eq (hcount.trans hC)
      obtain ⟨t, hexec, ht⟩ := exec_data_reading_last hm hd h hc hbits
      exact ⟨t, runInstrs_cons hexec [], ht⟩
    · have hpos := List.length_pos_iff.2 hlast
      have hc : s.decConsumed + 1 ≠ s.decC := fun he => by
        have := hcount.symm.trans (congrArg BitVec.toNat he)
        omega
      rw [← List.singleton_append, byteBits_append, byteBits_singleton] at hbits
      have hlen := congrArg List.length hbits
      simp only [List.length_append, length_lowBits, length_byteBits, List.length_replicate] at hlen
      have hbyte : lowBits b 8 <+: c :=
        List.prefix_of_prefix_length_le ⟨_, hbits⟩ (List.prefix_append ..) (by rw [length_lowBits]; omega)
      obtain ⟨d, rfl⟩ := hbyte
      rw [List.append_assoc] at hbits
      have hrest := List.append_cancel_left hbits
      obtain ⟨ds, zs, u, rfl, hexec, hread, hu⟩ := exec_data_reading_more hm hd h hc
      have hconsumed : u.decConsumed.toNat = s.decConsumed.toNat + 1 := by rw [hu]; exact hcount
      have hbytes : u.decC = s.decC := by rw [hu]
      have hpad : u.decP = s.decP := by rw [hu]
      obtain ⟨t, hrun, ht, herr, hpend⟩ := ih ((congrArg State.mode hu).trans hm) (hd.congr (by rw [hu]) (by rw [hu])) hread hlast
        (by rw [hconsumed, hbytes]; omega) (hpad ▸ hrest)
      refine ⟨t, (runInstrs_cons hexec _).trans hrun, ht, herr.trans (by rw [hu]), ?_⟩
      rw [hpend, hu, List.append_assoc]

/-- The operands of DEC.BEGIN, staged by ARG entries (R136). -/
def State.staged (s : State) (o c p : Word) : State := { s with arg0 := o, arg1 := c, arg2 := p }

theorem State.latched_decP (s : State) (o c : Word) (p : BitVec 3) : (s.staged o c (p.setWidth 32)).latched.decP = p := by
  have hp : (p.setWidth 32).toNat = p.toNat := BitVec.toNat_setWidth_of_le (by decide)
  change BitVec.ofNat 3 (p.setWidth 32).toNat = p
  rw [hp, BitVec.ofNat_toNat, BitVec.setWidth_eq]

/-- DECODE o, c, p stages the operands and makes the checks of DEC.BEGIN (R136). -/
theorem runInstrs_decode {s : State} (hm : s.mode = .idle) {o c p : Word} (hp : p.toNat ≤ 7)
    (h : o = 0 ∨ (s.cbCount ≠ 0 ∧ c ≠ 0)) (is : List Instr) :
    runInstrs ([.arg0 o, .arg1 c, .arg2 p, .decBegin] ++ is) s =
      runInstrs is (s.staged o c p).latched :=
  runInstrs_append (runInstrs_cons (exec_decBegin_latched (s := s.staged o c p) hm hp h) []) is

/-- After DEC.BEGIN all symbols of the file are to come. -/
theorem reading_latched {s : State} (hd : Decodable s) {xs : List Byte} (hv : ∀ x ∈ xs, (s.lutAt x).valid = true)
    (ho : s.arg0.toNat = xs.length) : Reading s.latched xs (s.codesOf xs) where
  valid := hv
  codes := rfl
  key_lt x hx := List.length_pos_iff.2 (hd.code_ne_nil (hv x (List.mem_of_mem_head? hx)))
  count := (Nat.zero_add _).trans ho.symm

/-- DECODE O, C, P and then the payload, when the payload carries the codes of the file and P zeros. -/
theorem runInstrs_decode_payload {s : State} (hm : s.mode = .idle) (hd : Decodable s) {xs bs : List Byte}
    (hv : ∀ x ∈ xs, (s.lutAt x).valid = true) (hcount : xs ≠ [] → s.cbCount ≠ 0) {o c : Word} {p : BitVec 3}
    (ho : o.toNat = xs.length) (hc : c.toNat = bs.length) (hbits : byteBits bs = s.codesOf xs ++ List.replicate p.toNat false) :
    ∃ t, runInstrs ([.arg0 o, .arg1 c, .arg2 (p.setWidth 32), .decBegin] ++ bs.map .data) s = .next t ∧
      t.mode = .idle ∧ t.err = s.err ∧ t.pend = s.pend ++ xs := by
  have hp := p.isLt
  have hp7 : (p.setWidth 32).toNat ≤ 7 := by rw [BitVec.toNat_setWidth_of_le (by decide)]; omega
  have hlen := congrArg List.length hbits
  rw [length_byteBits, List.length_append, List.length_replicate] at hlen
  by_cases hxs : xs = []
  · subst hxs
    have hbs : bs = [] := by
      have hnil : (s.codesOf []).length = 0 := rfl
      exact List.length_eq_zero_iff.1 (by omega)
    subst hbs
    have hc0 : c = 0 := BitVec.eq_of_toNat_eq hc
    rw [runInstrs_decode hm hp7 (.inl (BitVec.eq_of_toNat_eq ho))]
    exact ⟨_, rfl, if_pos hc0, rfl, (List.append_nil _).symm⟩
  · obtain ⟨x, zs, rfl⟩ := List.exists_cons_of_ne_nil hxs
    have hx := List.length_pos_iff.2 (hd.code_ne_nil (hv x List.mem_cons_self))
    rw [State.codesOf_cons, List.length_append] at hlen
    have hbs : 0 < bs.length := by omega
    have hc0 : c ≠ 0 := fun h => hbs.ne (hc ▸ congrArg BitVec.toNat h).symm
    rw [runInstrs_decode hm hp7 (.inr ⟨hcount hxs, hc0⟩)]
    have hread := reading_latched (s := s.staged o c (p.setWidth 32)) (hd.congr rfl rfl) hv ho
    refine runInstrs_data_reading (s := (s.staged o c (p.setWidth 32)).latched) (if_neg hc0) (hd.congr rfl rfl) hread
      (List.length_pos_iff.1 hbs) ((Nat.zero_add _).trans hc.symm) ?_
    rw [s.latched_decP]
    exact hbits

/-- Settles O50: the payload carries the codes of the file and its padding, and the decoder reads each of them back. -/
theorem perFileRoundTrip : Obligations.PerFileRoundTrip := by
  intro s t u xs payload hsm hum hc hs hb hp hlut hcount hmax hrun htm hpend
  have henc := encodable_of_encoded hsm hs hrun htm
  obtain ⟨t', payload', hrun', hframe, horig, hcomp, -, hlen, hbits⟩ :=
    encodedFileCarriesTheCodes s xs hsm hs henc.valid (by simpa using henc.origCount) (by simpa using henc.compCount)
  obtain rfl : t' = t := Host.Outcome.next.inj (hrun'.symm.trans hrun)
  obtain rfl : payload' = payload := List.append_cancel_left ((congrArg State.pend hframe).symm.trans hpend)
  refine runInstrs_decode_payload hum ((Decodable.of_counted hc hs hb hp).congr hlut hmax) ?_ ?_ horig (hcomp.trans hlen.symm) ?_
  · rw [State.lutAt_congr hlut]
    exact henc.valid
  · intro hxs
    obtain ⟨x, zs, rfl⟩ := List.exists_cons_of_ne_nil hxs
    rw [hcount]
    exact hb.cbCount_ne_zero (henc.valid x List.mem_cons_self)
  · rw [State.codesOf_congr hlut]
    exact hbits

end Sys2Proof.Machine

/-! ## The host archive protocol (47_host_archive.md)

What HostEncode returns is fixed by its last line, whatever the block did before it. The header reader compares fixed bytes in a row and
then the version, and none of these comparisons asks the block. -/

namespace Sys2Proof.Machine

/-! ### Results of a host procedure -/

/-- Every result the procedure gives, from any state of the host, meets `P`. -/
def Returns {α : Type} (P : α → Prop) (p : Proc α) : Prop := ∀ r h h', hostRun p h = (.ok r, h') → P r

namespace Returns

variable {α β : Type} {P : β → Prop}

theorem pure {r : β} (hr : P r) : Returns P (Pure.pure r) := by
  rintro _ h h' ⟨⟩
  exact hr

/-- The result of a sequence is a result of its last part. -/
theorem bind {p : Proc α} {f : α → Proc β} (hf : ∀ a, Returns P (f a)) : Returns P (p >>= f) := by
  intro r h h' hrun
  change ExceptT.bindCont f (p h).1 (p h).2 = _ at hrun
  cases hp : (p h).1 with
  | error e =>
    rw [hp] at hrun
    cases hrun
  | ok a =>
    rw [hp] at hrun
    exact hf a r _ h' hrun

end Returns

/-! ### HostEncode -/

/-- What HostEncode returns: an archive behind the header, and the uid with its suffix (R142). -/
def IsEncodeResult (uid : List Byte) (r : List Byte × List Byte) : Prop := archiveHeader <+: r.1 ∧ r.2 = uid ++ archiveSuffix

theorem hostEncode_returns (fuel : Nat) (uid : List Byte) (files : List ArchiveFile) :
    Returns (IsEncodeResult uid) (hostEncode fuel uid files) :=
  .bind fun _ => .bind fun _ => .bind fun _ => .bind fun _ => .bind fun _ => .bind fun _ => .bind fun cb => .bind fun _ =>
    .bind fun entries => .pure ⟨⟨cb ++ entries, (List.append_assoc ..).symm⟩, rfl⟩

/-- Settles O59: the last line of HostEncode puts the header first and the suffix last. -/
theorem everyArchiveBeginsWithTheHeader : Obligations.EveryArchiveBeginsWithTheHeader := by
  intro fuel uid archive name files h h' hrun
  obtain ⟨hprefix, hname⟩ := hostEncode_returns fuel uid files _ h h' hrun
  exact ⟨(List.prefix_iff_eq_take.1 hprefix).symm, hname⟩

/-! ### Reading the header -/

theorem takeBytes_append {n : Nat} {x : List Byte} (hx : x.length = n) (rest : List Byte) :
    takeBytes n (x ++ rest) = some (x, rest) := by
  subst hx
  rw [takeBytes, if_neg (by simp), List.take_left, List.drop_left]

/-- The big-endian value of four bytes is `v` for the bytes of `v` only. -/
theorem beValue_eq_toNat_iff {x : List Byte} (hx : x.length = 4) (v : Word) : beValue x = v.toNat ↔ x = u32be v := by
  obtain ⟨a, b, c, d, rfl⟩ := List.length_eq_four.1 hx
  simp only [beValue, List.foldl_cons, List.foldl_nil, u32be, extractLsb'_eq_ofNat, List.cons.injEq, and_true, BitVec.toNat_eq,
    BitVec.toNat_ofNat]
  omega

/-- The reader goes on behind `t`, and answers `bad` for other bytes of the same number. -/
def Expects (t : List Byte) (bad : HeaderFault) (f : List Byte → Except HeaderFault (List Byte)) : Prop :=
  ∀ x rest, x.length = t.length → f (x ++ rest) = if x = t then .ok rest else .error bad

theorem expects_expectU32 (v : Word) (bad : HeaderFault) : Expects (u32be v) bad (expectU32 v.toNat bad) := by
  intro x rest hx
  have hx4 : x.length = 4 := hx
  simp only [expectU32, takeBytes_append hx4, beValue_eq_toNat_iff hx4]

theorem expects_expectText (t : List Byte) : Expects t .corrupted (expectText t) := by
  intro x rest hx
  simp only [expectText, takeBytes_append hx]

/-- Two readers with one error, one behind the other. -/
theorem Expects.bind {t u : List Byte} {bad : HeaderFault} {f g : List Byte → Except HeaderFault (List Byte)}
    (hf : Expects t bad f) (hg : Expects u bad g) : Expects (t ++ u) bad (fun a => (f a).bind g) := by
  intro x rest hx
  rw [List.length_append] at hx
  obtain ⟨y, z, rfl, hy⟩ : ∃ y z, x = y ++ z ∧ y.length = t.length :=
    ⟨x.take t.length, x.drop t.length, (List.take_append_drop ..).symm, by simp; omega⟩
  have hz : z.length = u.length := by rw [List.length_append] at hx; omega
  have hsplit : y ++ z = t ++ u ↔ y = t ∧ z = u := List.append_eq_append_iff_of_size_eq_left hy
  simp only [List.append_assoc, hf y _ hy, hsplit]
  by_cases hyt : y = t
  · simp only [hyt, true_and, if_true]
    exact hg z rest hz
  · simp only [hyt, false_and, if_false]
    rfl

/-- The header without its version: offsets 0 to 22 (R140). -/
def headerTexts : List Byte := u32be 6 ++ magicText ++ u32be 9 ++ tagText

/-- Steps 1 and 2 of HostDecode: the magic and the tag (R144). -/
def readTexts (a : List Byte) : Except HeaderFault (List Byte) :=
  (((expectU32 6 .corrupted a).bind (expectText magicText)).bind (expectU32 9 .corrupted)).bind (expectText tagText)

theorem readHeader_eq (a : List Byte) : readHeader a = (readTexts a).bind (expectU32 1 .versionMismatch) := rfl

theorem expects_readTexts : Expects headerTexts .corrupted readTexts :=
  (((expects_expectU32 6 .corrupted).bind (expects_expectText magicText)).bind (expects_expectU32 9 .corrupted)).bind
    (expects_expectText tagText)

theorem readHeader_of_ne_headerTexts {x : List Byte} (hx : x.length = headerTexts.length) (hne : x ≠ headerTexts)
    (rest : List Byte) : readHeader (x ++ rest) = .error .corrupted := by
  rw [readHeader_eq, expects_readTexts x rest hx, if_neg hne]
  rfl

theorem readHeader_of_ne_version {v : List Byte} (hv : v.length = 4) (hne : v ≠ u32be 1) (rest : List Byte) :
    readHeader (headerTexts ++ (v ++ rest)) = .error .versionMismatch := by
  rw [readHeader_eq, expects_readTexts headerTexts _ rfl, if_pos rfl]
  exact (expects_expectU32 1 .versionMismatch v rest hv).trans (if_neg hne)

/-! ### HostDecode -/

/-- A header that reads as CORRUPTED is reported so, and the block is not asked (R144). -/
theorem hostRun_hostDecode_of_corrupted {a : List Byte} (ha : readHeader a = .error .corrupted) (fuel : Nat) (h : HostState) :
    hostRun (hostDecode fuel a) h = (.error (.failed .corrupted), h) := by
  rw [hostDecode, ha]
  rfl

/-- A header that reads as VERSION_MISMATCH is reported so, and the block is not asked (R144). -/
theorem hostRun_hostDecode_of_versionMismatch {a : List Byte} (ha : readHeader a = .error .versionMismatch) (fuel : Nat)
    (h : HostState) : hostRun (hostDecode fuel a) h = (.error (.failed .versionMismatch), h) := by
  rw [hostDecode, ha]
  rfl

/-- An archive whose byte at an offset from 0 to 22 is changed begins with other texts. -/
theorem readHeader_set_of_ne {k : Nat} (hk : k < 23) {b : Byte} (hb : archiveHeader[k]? ≠ some b) (rest : List Byte) :
    readHeader ((archiveHeader ++ rest).set k b) = .error .corrupted := by
  have harchive : archiveHeader ++ rest = headerTexts ++ (u32be 1 ++ rest) := List.append_assoc ..
  have hbyte : archiveHeader[k]? = headerTexts[k]? := List.getElem?_append_left hk
  rw [harchive, List.set_append_left _ _ hk]
  refine readHeader_of_ne_headerTexts List.length_set (fun heq => hb ?_) _
  rw [hbyte, ← heq]
  exact List.getElem?_set_self hk

/-- Settles O60: the texts of the header and its version are compared before HostDecode makes any access. -/
theorem headerCorruptionIsReported : Obligations.HeaderCorruptionIsReported where
  left fuel _ _ rest h hk hb := hostRun_hostDecode_of_corrupted (readHeader_set_of_ne hk hb rest) fuel h
  right fuel v rest h hv hne := by
    have harchive : archiveHeader.take 23 ++ v ++ rest = headerTexts ++ (v ++ rest) := List.append_assoc ..
    rw [harchive]
    exact hostRun_hostDecode_of_versionMismatch (readHeader_of_ne_version hv hne rest) fuel h

end Sys2Proof.Machine

/-! ## Error entry, and the queue behind an entry

The effect of an entry outside ERROR has two forms: it stays outside ERROR with the error registers as they were, or it is error entry
(60_exceptions.md R154). It reads nothing of Q, so an entry appended to Q before it is carried along or discarded with the rest of Q. From
these come the two laws of error mode (R154, R156) and the commutation of a queue write with an internal step (70_reset_and_hazards.md
R172, R180). -/

namespace Sys2Proof.Machine

/-! ### The causes and the reset state -/

/-- Settles O13: the table of R153 is the definition of `Cause.errWord`. -/
theorem causeTableValues : Obligations.CauseTableValues := by
  unfold Obligations.CauseTableValues
  decide

/-- Nothing is valid in a LUT at reset. -/
theorem codebookCounted_reset : CodebookCounted State.reset := by
  have hnone : State.reset.validSymbols = [] := State.validSymbols_of_lut_nil rfl
  refine ⟨?_, ?_⟩ <;> rw [hnone] <;> rfl

/-- Settles O51: at reset MODE is IDLE, the memories are empty, no LUT entry and no tree is valid, and the registers are 0. -/
theorem resetMeetsTheInvariants : Obligations.ResetMeetsTheInvariants := by
  have memories : MemoriesCanonical State.reset := ⟨rfl, rfl, rfl⟩
  have queues : QueuesBounded State.reset := ⟨Nat.zero_le _, Nat.zero_le _⟩
  have errors : ErrorModeClean State.reset := ⟨fun _ => ⟨rfl, rfl, rfl⟩, nofun⟩
  have encoder : EncoderSound State.reset := ⟨by decide, fun _ => rfl, by decide⟩
  have decoder : DecoderSound State.reset := ⟨fun _ => rfl, nofun⟩
  have entries : LutSound State.reset := fun _ => .inr rfl
  have parser : ParserSound State.reset := ⟨fun _ => ⟨rfl, rfl, rfl, rfl, rfl, rfl, rfl, rfl⟩, nofun⟩
  have codes : CodesDistinct State.reset := nofun
  have load : LoadCounted State.reset := nofun
  have tree : TreeMatchesLut State.reset := ⟨nofun, nofun⟩
  exact ⟨memories, queues, errors, encoder, decoder, entries, parser, codebookCounted_reset, codes, load, tree⟩

/-! ### The two forms of an entry's effect -/

/-- ERR, ERR_INFO and ERR_SEQ (10_state.md R24, R25). -/
def State.errorRegs (s : State) : Word × Word × Word := (s.err, s.errInfo, s.errSeq)

/-- The effect `f` of an entry on `s`: it stays outside ERROR, keeps the error registers and carries Q along, or it is error entry. An entry
appended to Q makes no other difference. -/
inductive RunsOrRaises (f : State → State) (s : State) : Prop
  | runs (hmode : (f s).mode ≠ .error) (hregs : (f s).errorRegs = s.errorRegs)
      (hqueue : ∀ e, f (s.enqueue e) = (f s).enqueue e)
  | raises {u : State} {c : Cause} {info eseq : Word} (h : f s = u.errorEntry c info eseq)
      (hqueue : ∀ e, f (s.enqueue e) = f s)

namespace RunsOrRaises

theorem raise {s : State} (c : Cause) (info : Word) : RunsOrRaises (fun u => u.raise c info) s := .raises rfl fun _ => rfl

/-- An effect that agrees on `s` with another one on `u`, a state with the same error registers. -/
theorem of_eq {f g : State → State} {s u : State} (hg : RunsOrRaises g u) (h : f s = g u)
    (hqueue : ∀ e, f (s.enqueue e) = g (u.enqueue e)) (hregs : u.errorRegs = s.errorRegs := by rfl) : RunsOrRaises f s := by
  cases hg with
  | runs hm hr hq => exact .runs (h ▸ hm) (h ▸ hr.trans hregs) fun e => (hqueue e).trans (h ▸ hq e)
  | raises hu hq => exact .raises (h.trans hu) fun e => (hqueue e).trans (h ▸ hq e)

/-- The effect is the one that a register's value chooses, and the register is not Q. -/
theorem of_register {α : Type} (register : State → α) {f g : State → State} {s : State} (hg : RunsOrRaises g s)
    (h : ∀ u, register u = register s → f u = g u) (hregister : ∀ e, register (s.enqueue e) = register s := by exact fun _ => rfl) :
    RunsOrRaises f s :=
  hg.of_eq (h s rfl) fun e => h _ (hregister e)

/-- A check that does not read Q leads to one of two effects. -/
theorem ite {c : State → Prop} [DecidablePred c] {f g : State → State} {s : State} (hf : c s → RunsOrRaises f s)
    (hg : ¬ c s → RunsOrRaises g s) (hc : ∀ e, c (s.enqueue e) ↔ c s := by exact fun _ => Iff.rfl) :
    RunsOrRaises (fun u => if c u then f u else g u) s := by
  by_cases h : c s
  · exact (hf h).of_eq (if_pos h) fun e => if_pos ((hc e).2 h)
  · exact (hg h).of_eq (if_neg h) fun e => if_neg (mt (hc e).1 h)

theorem inMode {m : Mode} {s : State} (i : Instr) {f : State → State} (h : s.mode = m → RunsOrRaises f s) :
    RunsOrRaises (fun u => inMode m i u f) s :=
  .ite h fun _ => .raise ..

end RunsOrRaises

/-! ### DATA in each mode -/

theorem State.tabulateByte_runsOrRaises {s : State} (hm : s.mode = .tabulate) (b : Byte) :
    RunsOrRaises (fun u => u.tabulateByte b) s :=
  .ite (fun _ => .raise ..) fun _ => .runs (by simp [hm]) rfl fun _ => rfl

theorem State.bitPut_enqueue (s : State) (b : Bool) (e : Entry) : (s.enqueue e).bitPut b = (s.bitPut b).enqueue e := by
  symm
  exact apply_ite (State.enqueue · e) ..

theorem State.bitPuts_enqueue (s : State) (c : Bits) (e : Entry) : (s.enqueue e).bitPuts c = (s.bitPuts c).enqueue e := by
  induction c generalizing s with
  | nil => rfl
  | cons b c ih => rw [State.bitPuts_cons, State.bitPuts_cons, State.bitPut_enqueue, ih]

theorem State.encodeByte_runsOrRaises {s : State} (hm : s.mode = .encode) (b : Byte) :
    RunsOrRaises (fun u => u.encodeByte b) s := by
  refine .ite (fun _ => .ite (fun _ => .raise ..) fun _ => ?_) fun _ => .raise ..
  have hframe := s.bitPuts_eq ((s.lutAt b).code.take (s.lutAt b).len.toNat)
  refine .runs ?_ ?_ fun e => ?_
  · rw [hframe]; simp [hm]
  · rw [hframe]; rfl
  · exact congrArg (fun u : State => { u with origCount := s.origCount + 1 }) (s.bitPuts_enqueue _ e)

theorem State.loadCount_runsOrRaises {s : State} (hm : s.mode = .cbLoad) (b : Byte) :
    RunsOrRaises (fun u => u.loadCount b) s := by
  have hne : s.mode ≠ .error := by simp [hm]
  refine .ite (fun _ => .ite (fun _ => .raise ..) fun _ => .ite (fun _ => ?_) fun _ => ?_) fun _ => ?_
  · exact .runs nofun rfl fun _ => rfl
  · exact .runs hne rfl fun _ => rfl
  · exact .runs hne rfl fun _ => rfl

theorem State.loadSym_runsOrRaises {s : State} (hm : s.mode = .cbLoad) (b : Byte) :
    RunsOrRaises (fun u => u.loadSym b) s :=
  .ite (fun _ => .raise ..) fun _ => .runs (by simp [hm]) rfl fun _ => rfl

theorem State.loadLen_runsOrRaises {s : State} (hm : s.mode = .cbLoad) (b : Byte) :
    RunsOrRaises (fun u => u.loadLen b) s := by
  have hne : s.mode ≠ .error := by simp [hm]
  refine .ite (fun _ => .ite (fun _ => .raise ..) fun _ => ?_) fun _ => ?_
  · exact .runs hne rfl fun _ => rfl
  · exact .runs hne rfl fun _ => rfl

theorem State.loadCommit_runsOrRaises {s : State} (hm : s.mode = .cbLoad) (b : Byte) (code : Bits) :
    RunsOrRaises (fun u => u.loadCommit b code) s := by
  refine .ite (fun _ => .raise ..) fun _ => .ite (fun _ => ?_) fun _ => ?_
  · exact .runs nofun rfl fun _ => rfl
  · exact .runs (by simp [hm]) rfl fun _ => rfl

theorem State.loadDigit_runsOrRaises {s : State} (hm : s.mode = .cbLoad) (b : Byte) :
    RunsOrRaises (fun u => u.loadDigit b) s := by
  unfold State.loadDigit
  cases digitBit b with
  | none => exact .raise ..
  | some bit =>
    refine .ite (fun _ => ?_) fun _ => ?_
    · exact (State.loadCommit_runsOrRaises hm b (s.ccode ++ [bit])).of_eq rfl fun _ => rfl
    · exact .runs (by simp [hm]) rfl fun _ => rfl

theorem State.loadByte_runsOrRaises {s : State} (hm : s.mode = .cbLoad) (b : Byte) :
    RunsOrRaises (fun u => u.loadByte b) s := by
  cases hp : s.phase with
  | count =>
    exact (State.loadCount_runsOrRaises hm b).of_register State.phase fun u hu => by simp only [State.loadByte, hu, hp]
  | sym => exact (State.loadSym_runsOrRaises hm b).of_register State.phase fun u hu => by simp only [State.loadByte, hu, hp]
  | len => exact (State.loadLen_runsOrRaises hm b).of_register State.phase fun u hu => by simp only [State.loadByte, hu, hp]
  | digits =>
    exact (State.loadDigit_runsOrRaises hm b).of_register State.phase fun u hu => by simp only [State.loadByte, hu, hp]

/-- The bit loop of R137 does not read Q. -/
theorem decodeKeyBits_enqueue (bits : Bits) (s : State) (e : Entry) :
    decodeKeyBits bits (s.enqueue e) = (decodeKeyBits bits s).map (State.enqueue · e) := by
  induction bits generalizing s with
  | nil => rfl
  | cons b bs ih =>
    by_cases hdone : s.decEmitted = s.decO
    · rw [decodeKeyBits_of_done hdone, decodeKeyBits_of_done (s := s.enqueue e) hdone]
      rfl
    · cases hkey : matchKey s.lut (s.key ++ [b]) with
      | some c =>
        rw [decodeKeyBits_emit hdone bs hkey, decodeKeyBits_emit (s := s.enqueue e) hdone bs hkey]
        exact ih (s.emit c)
      | none =>
        rcases Nat.lt_or_ge (s.key.length + 1) s.cbMaxlen.toNat with hlen | hlen
        · rw [decodeKeyBits_extend hdone bs hkey hlen, decodeKeyBits_extend (s := s.enqueue e) hdone bs hkey hlen]
          exact ih { s with key := s.key ++ [b] }
        · rw [decodeKeyBits_unmatchable hdone bs hkey hlen, decodeKeyBits_unmatchable (s := s.enqueue e) hdone bs hkey hlen]
          rfl

theorem State.decodeCounted_runsOrRaises {s : State} (hm : s.mode = .decode) (b : Byte) :
    RunsOrRaises (fun u => u.decodeCounted b) s := by
  refine .ite (fun _ => .ite (fun _ => .raise ..) fun _ => ?_) fun _ => ?_
  · exact .runs nofun rfl fun _ => rfl
  · exact .runs (by simp [hm]) rfl fun _ => rfl

theorem State.decodeByte_runsOrRaises {s : State} (hm : s.mode = .decode) (b : Byte) :
    RunsOrRaises (fun u => u.decodeByte b) s := by
  have hqueue := decodeKeyBits_enqueue (bitsOf b (nvalid s.decConsumed s.decC s.decP)) s
  cases hbits : decodeKeyBits (bitsOf b (nvalid s.decConsumed s.decC s.decP)) s with
  | error c =>
    refine (RunsOrRaises.raise (s := s) c (Instr.value (.data b))).of_eq ?_ fun e => ?_
    · simp only [State.decodeByte, hbits]
    · simp only [State.decodeByte, State.enqueue_decConsumed, State.enqueue_decC, State.enqueue_decP, hqueue, hbits]
      rfl
  | ok u =>
    have hframe := decodeKeyBits_eq hbits
    refine (State.decodeCounted_runsOrRaises (s := u) (by rw [hframe]; exact hm) b).of_eq ?_ (fun e => ?_) (by rw [hframe]; rfl)
    · simp only [State.decodeByte, hbits]
    · simp only [State.decodeByte, State.enqueue_decConsumed, State.enqueue_decC, State.enqueue_decP, hqueue, hbits]
      rfl

/-! ### Every entry's effect outside ERROR -/

theorem exec_data_runsOrRaises {s : State} (hm : s.mode ≠ .error) (b : Byte) :
    ∃ f, (∀ u, exec (.data b) u = .next (f u)) ∧ RunsOrRaises f s := by
  refine ⟨_, fun _ => rfl, ?_⟩
  cases h : s.mode with
  | idle => exact (RunsOrRaises.raise .dataInIdle (Instr.value (.data b))).of_register State.mode fun u hu => by simp only [hu, h]
  | tabulate => exact (State.tabulateByte_runsOrRaises h b).of_register State.mode fun u hu => by simp only [hu, h]
  | encode => exact (State.encodeByte_runsOrRaises h b).of_register State.mode fun u hu => by simp only [hu, h]
  | cbLoad => exact (State.loadByte_runsOrRaises h b).of_register State.mode fun u hu => by simp only [hu, h]
  | decode => exact (State.decodeByte_runsOrRaises h b).of_register State.mode fun u hu => by simp only [hu, h]
  | error => exact absurd h hm

theorem State.bitFlush_enqueue (s : State) (e : Entry) : (s.enqueue e).bitFlush = s.bitFlush.enqueue e := by
  symm
  exact apply_ite (State.enqueue · e) ..

theorem State.buildTree_enqueue (s : State) (e : Entry) : (s.enqueue e).buildTree = s.buildTree.enqueue e := by
  symm
  exact apply_ite (State.enqueue · e) ..

theorem State.decodeBegin_runsOrRaises {s : State} (hm : s.mode = .idle) : RunsOrRaises State.decodeBegin s := by
  refine .ite (fun _ => .raise ..) fun _ => .ite (fun _ => .raise ..) fun _ => .ite (fun _ => .raise ..) fun _ => ?_
  refine .runs ?_ rfl fun _ => rfl
  simp only [hm]
  split <;> nofun

/-- The meaning of an instruction that can stand in Q is a function, of one of the two forms on every state outside ERROR. -/
theorem exec_runsOrRaises {i : Instr} (hi : i.queued = true) {s : State} (hm : s.mode ≠ .error) :
    ∃ f, (∀ u, exec i u = .next (f u)) ∧ RunsOrRaises f s := by
  cases i with
  | ctrlSoftReset | ctrlAbort | ctrlClearErr => exact nomatch hi
  | data b => exact exec_data_runsOrRaises hm b
  | nop | arg0 | arg1 | arg2 => exact ⟨_, fun _ => rfl, .runs hm rfl fun _ => rfl⟩
  | histClear | freqSet | freqGet | cbClear | cbEmit => exact ⟨_, fun _ => rfl, .inMode _ fun _ => .runs hm rfl fun _ => rfl⟩
  | histBegin | histEnd | cbLoad | encBegin => exact ⟨_, fun _ => rfl, .inMode _ fun _ => .runs nofun rfl fun _ => rfl⟩
  | nodeGet | cbGet =>
    refine ⟨_, fun _ => rfl, .inMode _ fun _ => .ite (fun _ => ?_) fun _ => ?_⟩
    · exact .runs hm rfl fun _ => rfl
    · exact .runs hm rfl fun _ => rfl
  | build =>
    refine ⟨_, fun _ => rfl, .inMode _ fun _ => .runs ?_ ?_ s.buildTree_enqueue⟩
    · rwa [s.buildTree_mode]
    · rw [s.buildTree_frame]; rfl
  | encFlush =>
    refine ⟨_, fun _ => rfl, .inMode _ fun _ => .runs nofun ?_ fun e => ?_⟩
    · rcases s.bitFlush_cases with ⟨-, he⟩ | ⟨-, he⟩ <;> rw [he] <;> rfl
    · exact congrArg (fun u : State => { u with padding := s.flushPad, mode := .idle }) (s.bitFlush_enqueue e)
  | decBegin => exact ⟨_, fun _ => rfl, .inMode _ State.decodeBegin_runsOrRaises⟩

/-- What an entry decodes to can stand in Q: CTRL is not a queue port (30_encoding.md R76). -/
theorem queued_of_decodeEntry {e : Entry} {i : Instr} (h : decodeEntry e = .ok i) : i.queued = true := by
  have hencode := encodeOfDecodeIsTheEntry e i h
  cases i with
  | ctrlSoftReset | ctrlAbort | ctrlClearErr => exact nomatch hencode
  | _ => rfl

/-- The dispatch of an entry of Q is a function, of one of the two forms on every state outside ERROR. -/
theorem dispatchEntry_runsOrRaises (e : Entry) {s : State} (hm : s.mode ≠ .error) :
    ∃ f, (∀ u, dispatchEntry e u = .next (f u)) ∧ RunsOrRaises f s := by
  cases hd : decodeEntry e with
  | ok i =>
    obtain ⟨f, hf, h⟩ := exec_runsOrRaises (queued_of_decodeEntry hd) hm
    exact ⟨f, fun u => by rw [dispatchEntry, hd]; exact hf u, h⟩
  | error r => exact ⟨_, fun u => by rw [dispatchEntry, hd], .raise ..⟩

/-! ### The invariant of error mode -/

theorem errorModeClean_errorEntry (s : State) (c : Cause) (info eseq : Word) : ErrorModeClean (s.errorEntry c info eseq) :=
  ⟨fun h => absurd rfl h, fun _ => ⟨c.errWord_ne_zero, rfl⟩⟩

theorem errorModeClean_toReset (s : State) : ErrorModeClean s.toReset := ⟨fun _ => ⟨rfl, rfl, rfl⟩, nofun⟩

theorem errorModeClean_of_ne {s : State} (hm : s.mode ≠ .error) (h : s.errorRegs = (0, 0, 0)) : ErrorModeClean s :=
  ⟨fun _ => by simpa [State.errorRegs] using h, fun he => absurd he hm⟩

theorem ErrorModeClean.errorRegs_eq {s : State} (h : ErrorModeClean s) (hm : s.mode ≠ .error) : s.errorRegs = (0, 0, 0) := by
  obtain ⟨herr, hinfo, hseq⟩ := h.1 hm
  rw [State.errorRegs, herr, hinfo, hseq]

/-- In ERROR error entry has discarded Q, PEND and OUT (R154). -/
theorem ErrorModeClean.queues_eq_nil {s : State} (h : ErrorModeClean s) (hm : s.mode = .error) :
    s.q = [] ∧ s.pend = [] ∧ s.out = [] := by
  obtain ⟨-, heq⟩ := h.2 hm
  exact ⟨congrArg State.q heq, congrArg State.pend heq, congrArg State.out heq⟩

theorem RunsOrRaises.errorModeClean {f : State → State} {s : State} (h : RunsOrRaises f s) (hs : s.errorRegs = (0, 0, 0)) :
    ErrorModeClean (f s) := by
  cases h with
  | runs hm hr _ => exact errorModeClean_of_ne hm (hr.trans hs)
  | raises he _ => rw [he]; exact errorModeClean_errorEntry ..

/-! ### What the host changes beside queue ports and CTRL -/

/-- `s` with OUT, the interrupt registers and the world outside the block as in `t`. -/
def State.withInterface (s t : State) : State :=
  { s with
    out := t.out, doneIE := t.doneIE, errIE := t.errIE, doneIP := t.doneIP, errIP := t.errIP,
    accesses := t.accesses, turns := t.turns, reads := t.reads, draws := t.draws }

/-- A change that takes from OUT, writes the interrupt registers, or is outside the block. -/
structure InterfaceChange (s t : State) : Prop where
  frame : t = s.withInterface t
  out : t.out <:+ s.out

namespace InterfaceChange

/-- A change beside OUT. -/
theorem of_frame {s t : State} (frame : t = s.withInterface t := by rfl) (out : t.out = s.out := by rfl) : InterfaceChange s t :=
  ⟨frame, out ▸ List.suffix_rfl⟩

theorem trans {s t u : State} (h : InterfaceChange s t) (k : InterfaceChange t u) : InterfaceChange s u where
  frame := k.frame.trans (congrArg (State.withInterface · u) h.frame :)
  out := k.out.trans h.out

theorem hostRead (s : State) (o : Nat) : InterfaceChange s (s.hostRead o) := by
  unfold State.hostRead Reg.readEffect
  split
  · exact ⟨rfl, List.tail_suffix _⟩
  all_goals exact .of_frame

theorem regWrite {r : Reg} (hr : r.port = none) (s : State) (v : Word) : InterfaceChange s (s.regWrite r v) := by
  simp only [State.regWrite, hr]
  split <;> exact .of_frame

variable {s t : State} (h : InterfaceChange s t)
include h

theorem mode : t.mode = s.mode := (congrArg State.mode h.frame :)
theorem errorRegs : t.errorRegs = s.errorRegs := (congrArg State.errorRegs h.frame :)
theorem err : t.err = s.err := (congrArg State.err h.frame :)
theorem errInfo : t.errInfo = s.errInfo := (congrArg State.errInfo h.frame :)
theorem errSeq : t.errSeq = s.errSeq := (congrArg State.errSeq h.frame :)
theorem seq : t.seq = s.seq := (congrArg State.seq h.frame :)
theorem q : t.q = s.q := (congrArg State.q h.frame :)
theorem pend : t.pend = s.pend := (congrArg State.pend h.frame :)

theorem errorModeClean (hs : ErrorModeClean s) : ErrorModeClean t := by
  by_cases hm : s.mode = .error
  · refine ⟨fun hne => absurd (h.mode.trans hm) hne, fun _ => ?_⟩
    obtain ⟨hne, heq⟩ := hs.2 hm
    obtain ⟨-, -, hnil⟩ := hs.queues_eq_nil hm
    have hout : t.out = [] := List.suffix_nil.1 (hnil ▸ h.out)
    refine ⟨h.err ▸ hne, ?_⟩
    calc t = (errorState s s.err s.errInfo s.errSeq).withInterface t :=
          h.frame.trans (congrArg (State.withInterface · t) heq :)
      _ = { errorState t t.err t.errInfo t.errSeq with errIP := t.errIP } := by
          rw [State.withInterface, hout, errorState, errorState, h.err, h.errInfo, h.errSeq, h.seq]
          rfl
  · exact errorModeClean_of_ne (h.mode ▸ hm) (h.errorRegs.trans (hs.errorRegs_eq hm))

end InterfaceChange

/-! ### CTRL writes -/

/-- The three action bits of CTRL in the order of R93. -/
theorem ctrlWrite_eq (w : Word) (s : State) :
    ctrlWrite w s = .next (
      if w.getLsbD 0 then s.toReset
      else if w.getLsbD 1 then (if w.getLsbD 2 then s.abort.clearErr else s.abort)
      else if w.getLsbD 2 then s.clearErr
      else s) := by
  rw [ctrlWrite, decodeCtrl]
  cases w.getLsbD 0 <;> cases w.getLsbD 1 <;> cases w.getLsbD 2 <;> rfl

/-- In ERROR a CTRL write without bits 0 and 2 does nothing: ABORT has nothing to cancel (R95). -/
theorem ctrlWrite_of_error {s : State} (hm : s.mode = .error) {w : Word} (h0 : w.getLsbD 0 = false) (h2 : w.getLsbD 2 = false) :
    ctrlWrite w s = .next s := by
  rw [ctrlWrite_eq, h0, h2, State.abort_of_error hm]
  simp

theorem State.abort_errorModeClean {s : State} (hs : ErrorModeClean s) : ErrorModeClean s.abort := by
  by_cases hm : s.mode = .error
  · rwa [State.abort_of_error hm]
  · rw [State.abort_of_ne hm]
    exact errorModeClean_errorEntry ..

theorem State.clearErr_errorModeClean {s : State} (hs : ErrorModeClean s) : ErrorModeClean s.clearErr := by
  by_cases hm : s.mode = .error
  · rw [State.clearErr_of_error hm]
    exact errorModeClean_of_ne nofun rfl
  · rwa [State.clearErr_of_ne hm]

theorem ctrlWrite_errorModeClean {w : Word} {s t : State} (h : ctrlWrite w s = .next t) (hs : ErrorModeClean s) :
    ErrorModeClean t := by
  rw [ctrlWrite_eq] at h
  cases h
  split
  · exact errorModeClean_toReset s
  · split
    · split
      · exact State.clearErr_errorModeClean (State.abort_errorModeClean hs)
      · exact State.abort_errorModeClean hs
    · split
      · exact State.clearErr_errorModeClean hs
      · exact hs

/-! ### Steps -/

theorem State.portWrite_errorModeClean {s : State} (hs : ErrorModeClean s) (p : Port) (v : Word) :
    ErrorModeClean (s.portWrite p v) := by
  by_cases hm : s.mode = .error
  · rwa [State.portWrite_of_error hm]
  · by_cases hq : s.q.length = Config.qDepth
    · rw [State.portWrite_of_full hm hq]
      exact errorModeClean_errorEntry ..
    · rw [State.portWrite_of_room hm hq]
      exact errorModeClean_of_ne hm (hs.errorRegs_eq hm)

theorem State.regWrite_errorModeClean {s : State} (hs : ErrorModeClean s) (r : Reg) (v : Word) :
    ErrorModeClean (s.regWrite r v) := by
  cases hr : r.port with
  | some p => rw [State.regWrite_of_port hr]; exact State.portWrite_errorModeClean hs p v
  | none => exact (InterfaceChange.regWrite hr s v).errorModeClean hs

theorem hostMove_errorModeClean {s t : State} (h : hostMove s = .next t) (hs : ErrorModeClean s) : ErrorModeClean t := by
  rcases hostMove_cases h with ⟨-, rfl⟩ | ⟨a, rest, -, -, h⟩
  · exact hs
  · have hrest : ErrorModeClean { s with accesses := rest } := InterfaceChange.errorModeClean .of_frame hs
    rcases h with ⟨-, rfl⟩ | ⟨w, -, -, hw⟩ | ⟨w, -, -, rfl⟩
    · exact (InterfaceChange.hostRead ..).errorModeClean hrest
    · exact ctrlWrite_errorModeClean hw hrest
    · exact State.regWrite_errorModeClean hrest ..

theorem blockMove_errorModeClean {s t : State} (h : blockMove s = .next t) (hs : ErrorModeClean s) : ErrorModeClean t := by
  rcases blockMove_cases h with ⟨e, rest, u, -, -, hm, hu, rfl⟩ | ⟨hp, -, rfl⟩ | ⟨-, rfl⟩
  · obtain ⟨f, hf, hruns⟩ := dispatchEntry_runsOrRaises e (s := s.dequeue) hm
    obtain rfl : f s.dequeue = u := Host.Outcome.next.inj ((hf _).symm.trans hu)
    exact InterfaceChange.errorModeClean .of_frame (hruns.errorModeClean (hs.errorRegs_eq hm))
  · have hm : s.mode ≠ .error := fun hm =>
      let ⟨_, hpend, _⟩ := hs.queues_eq_nil hm
      hp hpend
    exact errorModeClean_of_ne hm (hs.errorRegs_eq hm)
  · exact hs

/-- Settles O16: outside ERROR an entry's effect keeps the error registers or is error entry, and in ERROR only the host interface changes
until a reset or CLEAR_ERR. -/
theorem errorModeStaysClean : Obligations.ErrorModeStaysClean := by
  intro s t hs h
  have hturns : ErrorModeClean { s with turns := s.turns.tail } := InterfaceChange.errorModeClean .of_frame hs
  rcases step_cases h with ⟨-, h⟩ | ⟨-, h⟩ | ⟨-, rfl⟩
  · exact blockMove_errorModeClean h hturns
  · exact hostMove_errorModeClean h hturns
  · exact errorModeClean_toReset _

/-- What the host can do in ERROR: change the host interface, or write to CTRL with SOFT_RESET or CLEAR_ERR (R156). -/
theorem hostMove_of_error {s t : State} (hm : s.mode = .error) (h : hostMove s = .next t) :
    InterfaceChange s t ∨
      ∃ w rest, s.accesses = { kind := .write w, offset := 0x010, width := 32 } :: rest ∧
        (w.getLsbD 0 = true ∨ w.getLsbD 2 = true) := by
  rcases hostMove_cases h with ⟨-, rfl⟩ | ⟨a, rest, ha, hw, h⟩
  · exact .inl .of_frame
  · have hrest : InterfaceChange s { s with accesses := rest } := .of_frame
    rcases h with ⟨-, rfl⟩ | ⟨w, hk, hr, hc⟩ | ⟨w, -, -, rfl⟩
    · exact .inl (hrest.trans (.hostRead ..))
    · by_cases hbits : w.getLsbD 0 = true ∨ w.getLsbD 2 = true
      · exact .inr ⟨w, rest, by rw [ha, access_eq_of_regAt_eq_ctrl hw hr, hk], hbits⟩
      · obtain ⟨h0, h2⟩ : w.getLsbD 0 = false ∧ w.getLsbD 2 = false := by simpa using hbits
        rw [ctrlWrite_of_error (s := { s with accesses := rest }) hm h0 h2] at hc
        cases hc
        exact .inl hrest
    · cases hport : (regAt a.offset.toNat).port with
      | none => exact .inl (hrest.trans (.regWrite hport ..))
      | some p =>
        rw [State.regWrite_of_port hport, State.portWrite_of_error (s := { s with accesses := rest }) hm]
        exact .inl hrest

/-- Settles O15: with nothing in Q and PEND the block has no move in ERROR, and the host's moves there are these two. -/
theorem errorIsSticky : Obligations.ErrorIsSticky := by
  intro s t hm hq hp h
  have hturns : InterfaceChange s { s with turns := s.turns.tail } := .of_frame
  have hkeep {u : State} (k : InterfaceChange s u) : u.mode = .error ∧ u.err = s.err ∧ u.errInfo = s.errInfo ∧
      u.errSeq = s.errSeq ∧ u.seq = s.seq ∧ u.q = [] ∧ u.pend = [] :=
    ⟨k.mode.trans hm, k.err, k.errInfo, k.errSeq, k.seq, k.q.trans hq, k.pend.trans hp⟩
  rcases step_cases h with ⟨-, h⟩ | ⟨hhost, h⟩ | ⟨hreset, -⟩
  · have hstill : ({ s with turns := s.turns.tail } : State).canMove = false :=
      (State.canMove_eq_false_iff _).2 (.inr (.inl ⟨hp, hm⟩))
    rw [blockMove_of_canMove_false hstill] at h
    cases h
    exact .inl (hkeep hturns)
  · rcases hostMove_of_error (s := { s with turns := s.turns.tail }) hm h with hc | hctrl
    · exact .inl (hkeep (hturns.trans hc))
    · exact .inr (.inr ⟨hhost, hctrl⟩)
  · exact .inr (.inl hreset)

/-! ### A queue write beside an internal step -/

/-- The entry written before an effect is the entry written after it, where Q has room: error entry discards it, and ERROR refuses it. -/
theorem RunsOrRaises.portWrite {f : State → State} {s : State} (h : RunsOrRaises f s) (hroom : (f s).q.length ≠ Config.qDepth)
    (p : Port) (v : Word) : f (s.enqueue { port := p, value := v }) = (f s).portWrite p v := by
  cases h with
  | runs hm _ hq => rw [hq, State.portWrite_of_room hm hroom]
  | raises he hq => rw [hq, State.portWrite_of_error (by rw [he]; rfl)]

/-- The completion rule and a queue write commute but for DONE_IP, which the rule sets by what is in Q. -/
theorem State.complete_portWrite (s : State) (p : Port) (v : Word) :
    { s.complete.portWrite p v with doneIP := (s.portWrite p v).complete.doneIP } = (s.portWrite p v).complete := by
  by_cases hm : s.mode = .error
  · rw [State.portWrite_of_error hm, State.portWrite_of_error (s := s.complete) hm]
  · by_cases hq : s.q.length = Config.qDepth
    · rw [State.portWrite_of_full hm hq, State.portWrite_of_full (s := s.complete) hm hq]
      rfl
    · rw [State.portWrite_of_room hm hq, State.portWrite_of_room (s := s.complete) hm hq]
      rfl

/-- The drain step takes from PEND, which a queue write leaves. -/
theorem State.drainByte_portWrite {s : State} (hq : s.q.length ≠ Config.qDepth) (p : Port) (v : Word) :
    (s.portWrite p v).drainByte = s.drainByte.portWrite p v := by
  by_cases hm : s.mode = .error
  · rw [State.portWrite_of_error hm, State.portWrite_of_error (s := s.drainByte) hm]
  · rw [State.portWrite_of_room hm hq, State.portWrite_of_room (s := s.drainByte) hm hq]
    rfl

theorem State.dequeue_enqueue {s : State} (hq : s.q ≠ []) (e : Entry) : (s.enqueue e).dequeue = s.dequeue.enqueue e := by
  rw [State.dequeue, State.enqueue_q, List.tail_append_of_ne_nil hq]
  rfl

/-- An execute step of a block with room in Q, and the same after a queue write. -/
theorem executeStep_portWrite {s : State} (hx : s.canExecute = true) (hroom : s.q.length < Config.qDepth) (p : Port) (v : Word) :
    ∃ r : State, blockMove s = .next r.complete ∧ blockMove (s.portWrite p v) = .next (r.portWrite p v).complete := by
  obtain ⟨hm, hpend, hne⟩ := s.canExecute_iff.1 hx
  obtain ⟨e, rest, hq⟩ := List.exists_cons_of_ne_nil hne
  obtain ⟨f, hf, hruns⟩ := dispatchEntry_runsOrRaises e (s := s.dequeue) hm
  have hle : (f s.dequeue).q.length ≤ s.dequeue.q.length := (dispatchEntry_onlyTakes (hf s.dequeue)).q.length_le
  rw [State.dequeue_q, List.length_tail] at hle
  have hx' : (s.enqueue { port := p, value := v }).canExecute = true :=
    (State.canExecute_iff _).2 ⟨hm, hpend, List.append_ne_nil_of_left_ne_nil hne _⟩
  have hq' : (s.enqueue { port := p, value := v }).q = e :: (rest ++ [{ port := p, value := v }]) := by
    rw [State.enqueue_q, hq, List.cons_append]
  refine ⟨f s.dequeue, ?_, ?_⟩
  · rw [blockMove_of_canExecute hx, executeStep_of_cons hq, hf, onNext_next]
  · rw [State.portWrite_of_room hm hroom.ne, blockMove_of_canExecute hx', executeStep_of_cons hq', hf, onNext_next,
      State.dequeue_enqueue hne, hruns.portWrite (by omega)]

theorem drainStep_portWrite {s : State} (hd : s.canDrain = true) (hroom : s.q.length < Config.qDepth) (p : Port) (v : Word) :
    blockMove (s.portWrite p v) = .next (s.drainByte.portWrite p v).complete := by
  have hd' : (s.portWrite p v).canDrain = true := by
    by_cases hm : s.mode = .error
    · rwa [State.portWrite_of_error hm]
    · rwa [State.portWrite_of_room hm hroom.ne]
  rw [blockMove_of_canDrain hd', drainStep, State.drainByte_portWrite hroom.ne]

/-- Settles O12: before the completion rule, which sets DONE_IP only, the write and either step commute. -/
theorem queueWriteCommutesWithInternalStep : Obligations.QueueWriteCommutesWithInternalStep := by
  intro s p v hmove hroom
  rcases Bool.or_eq_true_iff.1 hmove with hx | hd
  · obtain ⟨r, ht, hu⟩ := executeStep_portWrite hx hroom p v
    exact ⟨_, _, ht, hu, r.complete_portWrite p v⟩
  · exact ⟨_, _, blockMove_of_canDrain hd, drainStep_portWrite hd hroom p v, s.drainByte.complete_portWrite p v⟩

end Sys2Proof.Machine
